-- ==== Sys2Proof/Word.lean ====
section
/-! DEFINITION. The words the manual treats as bits: bytes, 16-bit fields of a frame, 32-bit tags. -/

namespace Sys2Proof

/-- A byte of a command-port or partner link frame (R215). -/
abbrev Byte := BitVec 8

/-- A 16-bit field, for example a CRC-16 (R215). -/
abbrev Half := BitVec 16

/-- A tag: 32 bits, never zero for a load (chapter Introduction, Conventions). -/
abbrev Tag := BitVec 32

end Sys2Proof
end

