-- ==== Sys2Proof/Syntax.lean ====
section
/-! DEFINITION. The commands of the part, one constructor of `Instr` for each row of spec/opcode_table.json
in the table's order, and the types of their operands. Every command's first operand `t` is the timebase
value at which it is taken (log 1). -/

namespace Sys2Proof

/-- The feed a strip is on (R4). -/
inductive Side where | solo | a | b
deriving DecidableEq, Repr

/-- The three phases (Introduction, Conventions). -/
inductive Phase where | l1 | l2 | l3
deriving DecidableEq, Repr

/-- Power-on policy (R25). -/
inductive PowerOnPolicy where | stayOff | on | last
deriving DecidableEq, Repr

/-- Watch mode (R25). -/
inductive WatchMode where | beat | flat | beatAndFlat
deriving DecidableEq, Repr

/-- Quarantine action (R25). -/
inductive QuarantineAction where | leaveOn | turnOff
deriving DecidableEq, Repr

/-- Restore mode of a branch, and of the external shed (section 1.5). -/
inductive RestoreMode where | manual | auto
deriving DecidableEq, Repr

/-- Why a partner refuses a BIND (R181). -/
inductive RefuseReason where | outletTaken | overBudget | outletFailed
deriving DecidableEq, Repr

/-- The eight attention flags (R206). -/
inductive Flag where
  | loadNotice | outletFault | branchGuard | line | peer | saveDone | config | port
deriving DecidableEq, Repr

/-- One entry of a local list, a peer list or a BIND: an outlet number and its reservation in dA
(R23, R181). -/
structure OutletRes where
  outlet : Nat
  res : Nat
deriving DecidableEq, Repr

/-- A watch policy: all six fields (R25). Interval, span and grace in s, band in W. -/
structure WatchPolicy where
  mode : WatchMode
  interval : Nat
  miss : Nat
  span : Nat
  band : Nat
  grace : Nat
deriving DecidableEq, Repr

/-- A cycle policy: all four fields (R25). The off dwell in s. -/
structure CyclePolicy where
  dwell : Nat
  auto : Bool
  threshold : Nat
  action : QuarantineAction
deriving DecidableEq, Repr

/-- A change of the watch policy: a new one given whole, or its removal (R34). -/
inductive WatchChange where
  | replace (p : WatchPolicy)
  | remove
deriving DecidableEq, Repr

/-- The policy fields an AMEND carries, each one optional (R34); also what a staged amendment holds
(R38). -/
structure PolicyChange where
  prio : Option Nat
  pop : Option PowerOnPolicy
  watch : Option WatchChange
  cycle : Option CyclePolicy
deriving DecidableEq, Repr

/-- The body of a request: the fields it carries, or a body in which the owner does not find them, its length or
content not fitting the kind, which the owner's checks refuse BAD_REQUEST (R201, log 19). The place of that refusal
before the request's other checks is a DESIGN CHOICE (log 53). -/
inductive Body (α : Type) where
  | fits (a : α)
  | unfit
deriving DecidableEq, Repr

/-- ADMIT (R29). An omitted policy field takes its default (R25). The cycle policy is carried with all four fields or
omitted whole: the model's reading of R25 (log 51). -/
structure AdmitReq where
  tag : Tag
  locals : List OutletRes
  peers : List OutletRes
  prio : Option Nat
  pop : Option PowerOnPolicy
  watch : Option WatchPolicy
  cycle : Option CyclePolicy
  expectedNone : Bool
deriving DecidableEq, Repr

/-- AMEND (R34). `undefinedCode` says that a policy field it carries by name (power-on policy, watch mode, auto-cycle,
quarantine action) holds a code for none of R25's values: a value out of range, which R34 judges at rank 1, after R28.
Such a field has no value, and `policy` gives the others. -/
structure AmendReq where
  tag : Tag
  expected : Option Nat
  locals : Option (List OutletRes)
  peers : Option (List OutletRes)
  policy : PolicyChange
  undefinedCode : Bool
deriving DecidableEq, Repr

/-- RETIRE (R40). -/
structure RetireReq where
  tag : Tag
  expected : Option Nat
deriving DecidableEq, Repr

/-- ALIAS add and remove (R46, R47): the load's tag operand and the alias. -/
structure TagPair where
  tag : Tag
  other : Tag
deriving DecidableEq, Repr

/-- OUTLETS (R151). -/
structure OutletsReq where
  first : Nat
  count : Nat
deriving DecidableEq, Repr

/-- A selector of METER (R162). -/
inductive MeterSel where
  | range (first count : Nat)
  | branch (b : Nat)
  | phase (p : Phase)
deriving DecidableEq, Repr

/-- METER (R162): the selectors it carries and the clear option. -/
structure MeterReq where
  selectors : List MeterSel
  clear : Bool
deriving DecidableEq, Repr

/-- One setting with its new value, as CONFIGURE carries it (R13, section 1.5). For an override, none is
STRAP, which removes it. -/
inductive SettingChange where
  | branchCount (v : Option Nat)
  | rating (v : Option Nat)
  | side (v : Option Side)
  | nominal (v : Nat)
  | ceiling (b v : Nat)
  | threshold (b v : Nat)
  | hysteresis (v : Nat)
  | spacing (v : Nat)
  | restoreMode (b : Nat) (m : RestoreMode)
  | restoreDelay (v : Nat)
  | extClass (v : Nat)
  | extRestore (m : RestoreMode)
  | dripPeriod (v : Nat)
  | faultThreshold (v : Nat)
  | wearLimit (v : Nat)
  | raiseLimit (v : Nat)
  | enable (f : Flag) (v : Bool)
  | master (v : Bool)
deriving DecidableEq, Repr

/-- What the sense inputs of one outlet read over a window (R153): the RMS current to the nearest cA, the
mean power to the nearest watt, and the mean delay of the current's crossings in steps, before the limits
of R153 are applied (log 7). -/
structure OutletReading where
  outlet : Nat
  current : Nat
  power : Int
  offset : Nat
deriving DecidableEq, Repr

/-- The blocks that take a window end (R155). -/
inductive WindowTaker where | watch | queue | switching | guard
deriving DecidableEq, Repr

/-- What a window end brings (R153, R155): the readings of the outlets (an outlet not listed reads 0), the
RMS voltage of each phase in 0.1 V, and the order in which the blocks take it (log 7, log 9). -/
structure WindowReading where
  outlets : List OutletReading
  volts1 : Nat
  volts2 : Nat
  volts3 : Nat
  order : List WindowTaker
deriving DecidableEq, Repr

/-- The commands, in the order of spec/opcode_table.json. -/
inductive Instr where
  /-- COLD_RESET (R17): the SIZE level, the SIDE reading and the level of the external shed input. -/
  | coldReset (t : Nat) (size : Nat) (side : Side) (shedLevel : Bool)
  /-- PORT_RESET (R204). -/
  | portReset (t : Nat)
  /-- READ_TRANSACTION (R200): whether every byte of the answer frame was clocked out. -/
  | readTransaction (t : Nat) (complete : Bool)
  /-- IGNORED_TRANSACTION (R200): the first MOSI byte. -/
  | ignoredTransaction (t : Nat) (first : Byte)
  /-- BAD_FRAME (R201): the bytes of the write transaction, the request sync first. -/
  | badFrame (t : Nat) (bytes : List Byte)
  /-- OVERRUN (R203). -/
  | overrun (t : Nat)
  /-- UNKNOWN_REQUEST_KIND (R201): the kind byte. -/
  | unknownRequestKind (t : Nat) (kind : Byte)
  /-- ADMIT (R29). -/
  | admitLoad (t : Nat) (body : Body AdmitReq)
  /-- AMEND (R34). -/
  | amend (t : Nat) (body : Body AmendReq)
  /-- RETIRE (R40). -/
  | retire (t : Nat) (body : Body RetireReq)
  /-- LOOKUP (R43): the tag. -/
  | lookup (t : Nat) (body : Body Tag)
  /-- LIST (R44): the first slot. -/
  | list (t : Nat) (body : Body Nat)
  /-- PIN (R45): the tag. -/
  | pin (t : Nat) (body : Body Tag)
  /-- ALIAS add (R46). -/
  | aliasAdd (t : Nat) (body : Body TagPair)
  /-- ALIAS remove (R47). -/
  | aliasRemove (t : Nat) (body : Body TagPair)
  /-- POWER_ON (R51): the tag. -/
  | powerOn (t : Nat) (body : Body Tag)
  /-- POWER_OFF (R56): the tag. -/
  | powerOff (t : Nat) (body : Body Tag)
  /-- CYCLE (R59): the tag. -/
  | cycle (t : Nat) (body : Body Tag)
  /-- CANCEL (R60): the tag. -/
  | cancel (t : Nat) (body : Body Tag)
  /-- RELEASE (R61 to R63): the tag. -/
  | release (t : Nat) (body : Body Tag)
  /-- BEAT (R79): the tags. -/
  | beat (t : Nat) (body : Body (List Tag))
  /-- OUTLETS (R151). -/
  | outlets (t : Nat) (body : Body OutletsReq)
  /-- REVIVE (R149): the outlet. -/
  | revive (t : Nat) (body : Body Nat)
  /-- FAULTS (R150): whether the clear option is carried. -/
  | faults (t : Nat) (body : Body Bool)
  /-- METER (R162). -/
  | meter (t : Nat) (body : Body MeterReq)
  /-- RECLAIM (R197): the outlets. -/
  | reclaim (t : Nat) (body : Body (List Nat))
  /-- CONFIGURE (R13). -/
  | configure (t : Nat) (body : Body (List SettingChange))
  /-- SETTINGS (R12). -/
  | settings (t : Nat) (body : Body Unit)
  /-- SAVE (R210). -/
  | save (t : Nat) (body : Body Unit)
  /-- SAVE_END (R212): whether the completion mark was written (else the read-back differed). -/
  | saveEnd (t : Nat) (marked : Bool)
  /-- ATTENTION (R208). -/
  | attention (t : Nat) (body : Body Unit)
  /-- NOTICES (R67). -/
  | notices (t : Nat) (body : Body Unit)
  /-- BOOT_GRACE_EXPIRY (R71): the load's slot. -/
  | bootGraceExpiry (t : Nat) (slot : Nat)
  /-- BEAT_DEADLINE_EXPIRY (R72): the load's slot. -/
  | beatDeadlineExpiry (t : Nat) (slot : Nat)
  /-- CONFIRM_EXPIRY (R73): the load's slot. -/
  | confirmExpiry (t : Nat) (slot : Nat)
  /-- DRIP_EXPIRY (R89). -/
  | dripExpiry (t : Nat)
  /-- DWELL_EXPIRY (R100): the slot of the load in DWELL. -/
  | dwellExpiry (t : Nat) (slot : Nat)
  /-- ORDER_DEADLINE_EXPIRY (R186): the slot of the load whose order it is. -/
  | orderDeadlineExpiry (t : Nat) (slot : Nat)
  /-- HELLO_SEND (R182). -/
  | helloSend (t : Nat)
  /-- HELLO (R183): the side, branch count and rating announced. -/
  | hello (t : Nat) (side : Side) (count : Nat) (rating : Nat)
  /-- SILENCE_EXPIRY (R183). -/
  | silenceExpiry (t : Nat)
  /-- LINK_FRAME_DROPPED (R181): the bytes taken. -/
  | linkFrameDropped (t : Nat) (bytes : List Byte)
  /-- BIND (R190). -/
  | bind (t : Nat) (tag : Tag) (order : Nat) (entries : List OutletRes) (prio : Nat)
  /-- UNBIND (R191). -/
  | unbind (t : Nat) (tag : Tag) (order : Nat)
  /-- DROP (R192): the hold limit in s. -/
  | drop (t : Nat) (tag : Tag) (order : Nat) (hold : Nat)
  /-- RAISE (R193). -/
  | raise (t : Nat) (tag : Tag) (order : Nat)
  /-- BOUND (R187). -/
  | bound (t : Nat) (tag : Tag) (order : Nat)
  /-- REFUSED (R187). -/
  | refused (t : Nat) (tag : Tag) (order : Nat) (reason : RefuseReason)
  /-- UNBOUND (R187). -/
  | unbound (t : Nat) (tag : Tag) (order : Nat)
  /-- DROPPED (R187). -/
  | dropped (t : Nat) (tag : Tag) (order : Nat)
  /-- DROP_REFUSED (R187). -/
  | dropRefused (t : Nat) (tag : Tag) (order : Nat)
  /-- RAISED (R187). -/
  | raised (t : Nat) (tag : Tag) (order : Nat)
  /-- RAISE_FAILED (R187): the outlet number, 0 for no lending. -/
  | raiseFailed (t : Nat) (tag : Tag) (order : Nat) (outlet : Nat)
  /-- HOLD_DEADLINE_EXPIRY (R195). -/
  | holdDeadlineExpiry (t : Nat)
  /-- CLOSE_DRIVE (R135): the outlet. -/
  | closeDrive (t : Nat) (outlet : Nat)
  /-- CLOSE_CONFIRMED (R136): the outlet and its measured outlet-side voltage in 0.1 V. -/
  | closeConfirmed (t : Nat) (outlet : Nat) (volts : Nat)
  /-- CLOSE_CONFIRM_WINDOW_END (R136): the outlet. -/
  | closeConfirmWindowEnd (t : Nat) (outlet : Nat)
  /-- OPEN_DRIVE (R138): the outlet. -/
  | openDrive (t : Nat) (outlet : Nat)
  /-- OPEN_CONFIRMED (R138): the outlet, its measured voltage in 0.1 V and its instantaneous current in
  cA. -/
  | openConfirmed (t : Nat) (outlet : Nat) (volts : Nat) (current : Nat)
  /-- OPEN_CONFIRM_WINDOW_END (R138): the outlet. -/
  | openConfirmWindowEnd (t : Nat) (outlet : Nat)
  /-- SENSED_POSITION_CHANGE (R133): the outlet and its measured outlet-side voltage in 0.1 V. -/
  | sensedPositionChange (t : Nat) (outlet : Nat) (volts : Nat)
  /-- PATROL_TICK (R144). -/
  | patrolTick (t : Nat)
  /-- WINDOW_END (R152). -/
  | windowEnd (t : Nat) (reading : WindowReading)
  /-- SPACING_EXPIRY (R121): the branch. -/
  | spacingExpiry (t : Nat) (branch : Nat)
  /-- EXTERNAL_SHED_ASSERT (R175). -/
  | externalShedAssert (t : Nat)
  /-- EXTERNAL_SHED_DEASSERT (R176). -/
  | externalShedDeassert (t : Nat)
  /-- PHASE_CROSSING (R156): the phase, and the RMS and the peak voltage of the half-cycle it ends, in
  0.1 V. -/
  | phaseCrossing (t : Nat) (phase : Phase) (rms : Nat) (peak : Nat)
  /-- HALF_CYCLE_TIMEOUT (R156): the phase. -/
  | halfCycleTimeout (t : Nat) (phase : Phase)
  /-- MISSED_CROSSING_CHECK (R159): the phase. -/
  | missedCrossingCheck (t : Nat) (phase : Phase)
  /-- GOOD_RUN_COMPLETE (R160): the phase. -/
  | goodRunComplete (t : Nat) (phase : Phase)
  /-- FIRST_JUDGEMENT_LIMIT (R158): the phase. -/
  | firstJudgementLimit (t : Nat) (phase : Phase)
  /-- PORT_RESET_RELEASE (R200). -/
  | portResetRelease (t : Nat)
  /-- LINK_FRAME_SENT (R181). -/
  | linkFrameSent (t : Nat)
deriving DecidableEq, Repr

end Sys2Proof
end

