-- ==== Sys2Proof/Config.lean ====
section
/-! DEFINITION. What the part fixes (the timebase, the SIZE table, fixed times and levels) and the free
values: the roundings the manual leaves open. -/

namespace Sys2Proof.Config

/-- Steps of the timebase in one ms: it counts in steps of 0.01 ms (R1). -/
def ms : Nat := 100
/-- Steps of the timebase in one s (R1). -/
def sec : Nat := 100000
/-- Steps of the timebase in one h (R1). -/
def hour : Nat := 360000000

/-- The results whose rounding the manual does not state (log 8). -/
inductive Rounding where
  /-- the mean half-cycle, in steps (R156) -/
  | halfPeriod
  /-- the frequency, in 0.01 Hz (R155) -/
  | frequency
  /-- the length of a window that lies exactly between two whole ms (R154) -/
  | windowLength
  /-- a drive-to-confirmation time, in whole ms (R139) -/
  | operateTime
deriving DecidableEq, Repr

/-- FREE VALUE (log 8, DESIGN CHOICE): whether the result `num / den` of the kind is given as the whole
number above it rather than the one below, where the manual does not say. No value of it can be proved. -/
opaque roundsUp : Rounding → Nat → Nat → Bool

/-- The quotient where the manual states no rounding: exact where it is whole, else one of the two
whole numbers beside it, which one is a free value (log 8). -/
def quotient (k : Rounding) (num den : Nat) : Nat :=
  if num % den = 0 then num / den
  else if roundsUp k num den then num / den + 1 else num / den

/-- The quotient rounded to the nearest whole number; at a tie the side is a free value (log 8). -/
def nearest (k : Rounding) (num den : Nat) : Nat :=
  if 2 * (num % den) < den then num / den
  else if den < 2 * (num % den) then num / den + 1
  else if roundsUp k num den then num / den + 1 else num / den

/-- FREE VALUE (log 49, DESIGN CHOICE): the bytes of an answer body whose layout the manual does not give. No value
of it can be proved. -/
opaque bodyBytes {α : Type} : α → List Byte

/-- FREE VALUE (log 49, DESIGN CHOICE): the byte that MISO carries at a place past the end of an answer frame, which
the manual does not give. No value of it can be proved. -/
opaque pastFrame {α : Type} : α → Nat → Byte

/-- Branches of a SIZE level (R3). -/
def sizeBranches : Nat → Nat
  | 0 => 6 | 1 => 6 | 2 => 6 | 3 => 3 | 4 => 3 | 5 => 3 | 6 => 6 | _ => 3

/-- Rating per branch of a SIZE level, in A (R3). -/
def sizeRating : Nat → Nat
  | 0 => 16 | 1 => 20 | 2 => 32 | 3 => 16 | 4 => 20 | 5 => 32 | 6 => 10 | _ => 10

/-- Default admit ceiling of a rating in A, in dA: 80 % (section 1.5). -/
def defaultCeiling (rating : Nat) : Nat := rating * 8
/-- Default trip threshold of a rating in A, in dA: 95 % (section 1.5). -/
def defaultThreshold (rating : Nat) : Nat := rating * 95 / 10

/-- A close or open drive opens a confirm window of 50 ms (R136, R138). -/
def confirmWindow : Nat := 50 * ms
/-- Deadline of BIND and UNBIND: 1 s (R186). -/
def bindDeadline : Nat := sec
/-- Deadline of DROP: 3 s (R186). -/
def dropDeadline : Nat := 3 * sec
/-- The silence timer: 1 s (R183). -/
def silence : Nat := sec
/-- A HELLO is made every 250 ms (R182). -/
def helloPeriod : Nat := 250 * ms
/-- The patrol pointer advances every second (R144). -/
def patrolPeriod : Nat := sec
/-- A window not timed by crossings lasts 200 ms (R152). -/
def freeWindow : Nat := 200 * ms
/-- A good run of 2 s gives the judgement UP or PHASE_RETURN (R158, R160). -/
def goodRun : Nat := 2 * sec
/-- The first judgement is made 3 s after the restoration steps at the latest (R158). -/
def firstLimit : Nat := 3 * sec
/-- Shortest half-cycle in range, 7.69 ms (R156). -/
def halfMin : Nat := 769
/-- Longest half-cycle in range, 11.11 ms (R156). -/
def halfMax : Nat := 1111
/-- The reference half-period after a cold reset, 10.00 ms (R156). -/
def halfDefault : Nat := 1000
/-- A crossing within 1 ms of the expected one answers it (R159). -/
def crossTolerance : Nat := ms
/-- Largest window figure of an outlet (R153). -/
def figureMax : Nat := 65535
/-- The energy total wraps past this value (R153, R154). -/
def energyMax : Nat := 1099511627775
/-- Watt-milliseconds in one centiwatt-hour (R154). -/
def wattMsPerCwh : Nat := 36000
/-- The operation count stops here (R140). -/
def opsMax : Nat := 4294967295
/-- Aliases the whole strip can hold (R26, R46). -/
def aliasMax : Nat := 64

end Sys2Proof.Config
end

