-- ==== Sys2Proof/Machine/State.lean ====
section
/-! DEFINITION. The state of the part: plain data, every piece of state the manual names (INVENTORY.md,
State), and the machine right after reset. -/

namespace Sys2Proof.Machine

/-! ### Load Table (R22, R23) and Watch Unit (R68) -/

/-- The eleven load states, in the order of R49's table. -/
inductive LoadState where
  | admitting | unpowered | starting | on | stopping | cycling | quarantined | shed | dark | stranded | retiring
deriving DecidableEq, Repr

/-- Why a load is QUARANTINED (R23). -/
inductive QuarantineReason where | strikes | outletFailed
deriving DecidableEq, Repr

/-- Watch sub-states (R69). -/
inductive WatchSub where | inactive | boot | live | suspect | hung
deriving DecidableEq, Repr

/-- The watch of a load (R68). A timer is the timebase value at which it expires, or none while it is
stopped. -/
structure Watch where
  sub : WatchSub
  boot : Option Nat
  beat : Option Nat
  confirm : Option Nat
  ref : Option Nat
  spanStart : Nat
  flatSign : Bool
deriving DecidableEq, Repr

/-- A watch as it is created: INACTIVE, every timer stopped, the reference absent (R68). -/
def Watch.stopped : Watch :=
  { sub := .inactive, boot := none, beat := none, confirm := none, ref := none, spanStart := 0, flatSign := false }

/-- Why a cycle was started (R90). -/
inductive Cause where | hang | bootExpiry | request
deriving DecidableEq, Repr

/-- Reasons of an outcome (R106). -/
inductive CycleReason where | outletFault | peerNoAnswer | peerRefused | peerLost | powerOff | lineLoss
deriving DecidableEq, Repr

/-- Outcomes of a cycle (R106). -/
inductive CycleOutcome where
  | done
  | cancelled
  | failed (r : CycleReason)
  | abandoned (r : CycleReason)
deriving DecidableEq, Repr

/-- The last cycle outcome of a record: the outcome with its reason, and the cycle's cause (R106). -/
structure LastOutcome where
  outcome : CycleOutcome
  cause : Cause
deriving DecidableEq, Repr

/-- The thirteen notice kinds, in the order of R66's table. -/
inductive Notice where
  | hang | cycleDone | cycleFailed | quarantined | shed | cordShed | restored | dark | stranded | outletFault
  | peerNoAnswer | stagedApplied | wear
deriving DecidableEq, Repr

/-- The four orders (Conventions). -/
inductive OrderKind where | bind | unbind | drop | raise
deriving DecidableEq, Repr

/-- The sender of an order (R185). -/
inductive Sender where | admission | amendment | retire | start | stop | quarantine | cycle | load
deriving DecidableEq, Repr

/-- An outstanding order record (R185). -/
structure OrderRec where
  kind : OrderKind
  number : Nat
  deadline : Nat
  sender : Sender
deriving DecidableEq, Repr

/-- A peer-list sequence in progress (R36): the carried list, and the list at its start. -/
structure AmendSeq where
  carried : List OutletRes
  before : List OutletRes
deriving DecidableEq, Repr

/-- A load record (R23), with the load's watch (R68), its outstanding order (R185) and its peer-list
sequence (R36). -/
structure Load where
  tag : Tag
  revision : Nat
  locals : List OutletRes
  peers : List OutletRes
  prio : Nat
  pop : PowerOnPolicy
  wantedOn : Bool
  watchPolicy : Option WatchPolicy
  cyclePolicy : CyclePolicy
  aliases : List Tag
  pinned : Bool
  state : LoadState
  qReason : Option QuarantineReason
  strikes : Nat
  notices : BitVec 13
  staged : Option PolicyChange
  postCycleBoot : Bool
  awaiting : Bool
  lastOutcome : Option LastOutcome
  powerTime : Option Nat
  startRestored : Bool
  watch : Watch
  order : Option OrderRec
  amendSeq : Option AmendSeq
deriving DecidableEq, Repr

/-- A slot of the Load Table (R22): its revision counter and its record. -/
structure Slot where
  counter : Nat
  load : Option Load
deriving DecidableEq, Repr

/-- An empty slot after a cold reset (R22). -/
def Slot.empty : Slot := { counter := 0, load := none }

/-! ### Outlet Table (R6) and Switching Unit (R132) -/

/-- The owner of an outlet (R6). -/
inductive Owner where
  | free
  | bound (slot : Nat)
  | lent (tag : Tag) (order : Nat) (prio : Nat)
deriving DecidableEq, Repr

/-- Service of an outlet (R132). -/
inductive Service where | inService | failed
deriving DecidableEq, Repr

/-- A commanded position (R132). -/
inductive Position where | opened | closed
deriving DecidableEq, Repr

/-- A sensed position (R133). -/
inductive Sensed where | live | dead | unknown
deriving DecidableEq, Repr

/-- The switching field (R132). -/
inductive Switching where | idle | closing | opening
deriving DecidableEq, Repr

/-- The drive of the operation in flight (R135, R138): the moment fixed for it, whether it is aimed, and
the moment it was issued. -/
structure Drive where
  moment : Nat
  aimed : Bool
  issued : Option Nat
deriving DecidableEq, Repr

/-- A recheck (R144): the position found, the moment of finding, and whether a drive was issued since. -/
structure Recheck where
  found : Sensed
  moment : Nat
  driven : Bool
deriving DecidableEq, Repr

/-- A drop hold that is present, with its optional hold deadline (R189). -/
structure DropHold where
  deadline : Option Nat
deriving DecidableEq, Repr

/-- One outlet: ownership (R6), markers (R171, R177), adoption (R19), drop hold (R189), the switching
fields (R132), the measured outlet-side voltage (R133) and the window figures (R153, R154). -/
structure Outlet where
  owner : Owner
  reservation : Nat
  releasing : Bool
  shed : Bool
  lineLost : Bool
  adopted : Bool
  dropHold : Option DropHold
  service : Service
  commanded : Position
  sensed : Sensed
  volts : Nat
  switching : Switching
  pendingOpen : Bool
  drive : Option Drive
  closeTime : Nat
  openTime : Nat
  faults : Nat
  ops : Nat
  wear : Bool
  driftHeld : Bool
  recheck : Option Recheck
  current : Nat
  power : Nat
  offset : Option Nat
  energy : Nat
  residue : Nat
deriving DecidableEq, Repr

/-- An outlet after a cold reset, before adoption (R6, R17, R132, R153). -/
def Outlet.cold : Outlet :=
  { owner := .free, reservation := 0, releasing := false, shed := false, lineLost := false, adopted := false,
    dropHold := none, service := .inService, commanded := .opened, sensed := .unknown, volts := 0,
    switching := .idle, pendingOpen := false, drive := none, closeTime := 8, openTime := 8, faults := 0, ops := 0,
    wear := false, driftHeld := false, recheck := none, current := 0, power := 0, offset := none, energy := 0,
    residue := 0 }

/-- The kinds of relay fault (R147). -/
inductive FaultKind where | noClose | welded | drift
deriving DecidableEq, Repr

/-- The first-fault capture when it is full (R148). -/
structure Capture where
  outlet : Nat
  kind : FaultKind
  ownerTag : Tag
  current : Nat
deriving DecidableEq, Repr

/-- The patrol pointer and the moment of its next advance (R144). -/
structure Patrol where
  pointer : Nat
  next : Nat
deriving DecidableEq, Repr

/-! ### Cycle Engine (R90, R91) -/

/-- Phases of a held context (R90). WAITING is membership of the wait list (R91). -/
inductive CyclePhase where | opening | dwell | closing
deriving DecidableEq, Repr

/-- Peer progress (R90). -/
inductive Peer where | none | asked | answered
deriving DecidableEq, Repr

/-- A pending outcome (R90): CANCELLED, or FAILED with a reason. -/
inductive PendingOutcome where
  | cancelled
  | failed (r : CycleReason)
deriving DecidableEq, Repr

/-- A held cycle context (R90). -/
structure Context where
  slot : Nat
  phase : CyclePhase
  cause : Cause
  order : Option Nat
  deadline : Option Nat
  progress : List Nat
  peer : Peer
  pending : Option PendingOutcome
deriving DecidableEq, Repr

/-- A load on the wait list, with the cause its cycle will have (R91, R82). -/
structure Waiter where
  slot : Nat
  cause : Cause
deriving DecidableEq, Repr

/-! ### Energization Queue (R115, R118) -/

/-- Causes of a queue entry (R115). -/
inductive QueueCause where | powerOn | cycle | restore | startup | peerRaise
deriving DecidableEq, Repr

/-- A queue entry (R115). -/
structure Entry where
  outlet : Nat
  owner : Owner
  prio : Nat
  cause : QueueCause
  arrival : Nat
deriving DecidableEq, Repr

/-- Hold reasons, in the order of R119's table. -/
inductive HoldReason where | none | outletBusy | closeInFlight | spacing | guard | headroom
deriving DecidableEq, Repr

/-- The inrush gate of a branch (R118). -/
structure Gate where
  closing : Option Nat
  lastDrive : Option Nat
  reason : HoldReason
deriving DecidableEq, Repr

/-- A gate after a cold reset (R118). -/
def Gate.cold : Gate := { closing := none, lastDrive := none, reason := .none }

/-! ### Branch Guard (R165, R171, R175) -/

/-- Guard states (R165). -/
inductive GuardState where | normal | shedding | hold | restoring
deriving DecidableEq, Repr

/-- The victim of a shed step (R171). -/
inductive Victim where
  | slot (i : Nat)
  | home (tag : Tag)
deriving DecidableEq, Repr

/-- Kinds of a shed list entry (R171). -/
inductive ShedKind where | load | cord | lent
deriving DecidableEq, Repr

/-- A shed list entry (R171). -/
structure ShedEntry where
  victim : Victim
  kind : ShedKind
  outlets : List Nat
deriving DecidableEq, Repr

/-- The guard record of a branch (R165). -/
structure Guard where
  state : GuardState
  overCount : Nat
  settle : Option Nat
  restoreStart : Option Nat
  list : List ShedEntry
deriving DecidableEq, Repr

/-- A guard record after a cold reset (R165). -/
def Guard.cold : Guard := { state := .normal, overCount := 0, settle := none, restoreStart := none, list := [] }

/-- The external shed state, the class of the last assertion and the external shed list (R175). -/
structure ExtShed where
  active : Bool
  cls : Option Nat
  list : List ShedEntry
deriving DecidableEq, Repr

/-! ### Metering Engine (R152 to R159) -/

/-- Line state of a phase (section 8.3). -/
inductive LineState where | unknown | up | lost
deriving DecidableEq, Repr

/-- One phase at the Metering Engine: lock, run and last in-range half-cycles (R156), crossings, good run
and line state (R158, R159), the window in progress and the last window's figures (R153, R155). -/
structure Line where
  locked : Bool
  run : Nat
  halves : List Nat
  lastCross : Option Nat
  timedOut : Bool
  goodRun : Option Nat
  state : LineState
  expected : Nat
  prevExpected : Option Nat
  missed : Nat
  winSum : Nat
  winCount : Nat
  winLocked : Bool
  volts : Nat
  freq : Nat
  current : Nat
deriving DecidableEq, Repr

/-- A phase after a cold reset (R156, R158). -/
def Line.cold : Line :=
  { locked := false, run := 0, halves := [], lastCross := none, timedOut := false, goodRun := none,
    state := .unknown, expected := 0, prevExpected := none, missed := 0, winSum := 0, winCount := 0,
    winLocked := false, volts := 0, freq := 0, current := 0 }

/-- The running window (R152): the window number, its start, whether it still runs under LOCKED, the
crossings of L1 taken in it, the end of the last window, and the branch currents of that window (R155). -/
structure Meter where
  number : Nat
  start : Nat
  locked : Bool
  crossings : Nat
  lastEnd : Option Nat
  branch : Vector Nat 6
deriving DecidableEq, Repr

/-! ### Partner Link Controller (R181 to R189) -/

/-- Presence states (R183). -/
inductive Presence where | down | joining | up | mismatch
deriving DecidableEq, Repr

/-- The partner's announcement (R182). -/
structure Announce where
  side : Side
  count : Nat
  rating : Nat
  moment : Nat
deriving DecidableEq, Repr

/-- The frames of the partner link (R181). -/
inductive LinkFrame where
  | hello (side : Side) (count : Nat) (rating : Nat)
  | bind (tag : Tag) (order : Nat) (entries : List OutletRes) (prio : Nat)
  | bound (tag : Tag) (order : Nat)
  | refused (tag : Tag) (order : Nat) (reason : RefuseReason)
  | unbind (tag : Tag) (order : Nat)
  | unbound (tag : Tag) (order : Nat)
  | drop (tag : Tag) (order : Nat) (hold : Nat)
  | dropped (tag : Tag) (order : Nat)
  | dropRefused (tag : Tag) (order : Nat)
  | raise (tag : Tag) (order : Nat)
  | raised (tag : Tag) (order : Nat)
  | raiseFailed (tag : Tag) (order : Nat) (outlet : Nat)
deriving DecidableEq, Repr

/-- Kinds of a pending answer (R189). -/
inductive AnswerKind where | dropped | raised | unbound
deriving DecidableEq, Repr

/-- A pending answer of the partner role (R189). `reopen` are the awaited outlets whose pending open was
taken before the RAISE (R194, last row but one). -/
structure PendingAnswer where
  tag : Tag
  kind : AnswerKind
  order : Nat
  awaited : List Nat
  reopen : List Nat
deriving DecidableEq, Repr

/-- The Partner Link Controller, but for the order records, which stand with their loads (R185). `side` is the
side of the last HELLO made, by which received HELLOs are judged: a changed side takes effect at the next
HELLO (R14, R182). -/
structure Link where
  side : Side
  presence : Presence
  announce : Option Announce
  silence : Option Nat
  nextHello : Nat
  counter : Nat
  tx : List LinkFrame
  answers : List PendingAnswer
deriving DecidableEq, Repr

/-! ### Settings (section 1.5) -/

/-- Eight attention flags, or their eight enables (R206). -/
structure Flags where
  loadNotice : Bool
  outletFault : Bool
  branchGuard : Bool
  line : Bool
  peer : Bool
  saveDone : Bool
  config : Bool
  port : Bool
deriving DecidableEq, Repr

/-- No flag raised. -/
def Flags.none : Flags :=
  { loadNotice := false, outletFault := false, branchGuard := false, line := false, peer := false,
    saveDone := false, config := false, port := false }

/-- All enables set. -/
def Flags.every : Flags :=
  { loadNotice := true, outletFault := true, branchGuard := true, line := true, peer := true,
    saveDone := true, config := true, port := true }

/-- The strip settings (section 1.5), in the units of its table. -/
structure Settings where
  countOvr : Option Nat
  ratingOvr : Option Nat
  sideOvr : Option Side
  nominal : Nat
  ceiling : Vector Nat 6
  threshold : Vector Nat 6
  hysteresis : Nat
  spacing : Nat
  restoreMode : Vector RestoreMode 6
  restoreDelay : Nat
  extClass : Nat
  extRestore : RestoreMode
  dripPeriod : Nat
  faultThreshold : Nat
  wearLimit : Nat
  raiseLimit : Nat
  enables : Flags
  master : Bool
deriving DecidableEq, Repr

/-- The defaults of section 1.5, for a rating in A. -/
def Settings.defaults (rating : Nat) : Settings :=
  { countOvr := none, ratingOvr := none, sideOvr := none, nominal := 2300,
    ceiling := Vector.replicate 6 (Config.defaultCeiling rating),
    threshold := Vector.replicate 6 (Config.defaultThreshold rating),
    hysteresis := 10, spacing := 500, restoreMode := Vector.replicate 6 .auto, restoreDelay := 60,
    extClass := 1, extRestore := .auto, dripPeriod := 24, faultThreshold := 3, wearLimit := 100000,
    raiseLimit := 60, enables := Flags.every, master := true }

/-- The strap readings of the last cold reset (R3, R4). -/
structure Straps where
  size : Nat
  side : Side
deriving DecidableEq, Repr

/-! ### Image Store (R209, R213) -/

/-- A load record in the image (R213). -/
structure ImageRecord where
  slot : Nat
  tag : Tag
  aliases : List Tag
  locals : List OutletRes
  peers : List OutletRes
  prio : Nat
  pop : PowerOnPolicy
  watchPolicy : Option WatchPolicy
  cyclePolicy : CyclePolicy
  wantedOn : Bool
deriving DecidableEq, Repr

/-- A lent entry in the image (R213). -/
structure ImageLent where
  outlet : Nat
  tag : Tag
  prio : Nat
  res : Nat
deriving DecidableEq, Repr

/-- A snapshot (R213). -/
structure Snapshot where
  settings : Settings
  records : List ImageRecord
  lent : List ImageLent
deriving DecidableEq, Repr

/-- Last save result (R209). -/
inductive SaveResult where | none | done | failed
deriving DecidableEq, Repr

/-- The Image Store (R209): the snapshot being written while WRITING, the last save result, the image
status, and the nonvolatile image with its completion mark and whether its check value matches. -/
structure Store where
  writing : Option Snapshot
  lastSave : SaveResult
  valid : Bool
  content : Option Snapshot
  mark : Bool
  checkOk : Bool
deriving DecidableEq, Repr

/-! ### Command Port (R202, R205) -/

/-- The 23 request kinds, in the order of R205's table. -/
inductive ReqKind where
  | admitLoad | amend | retire | lookup | list | pin | aliases | powerOn | powerOff | cycle | cancel | release | beat
  | outlets | revive | faults | meter | reclaim | configure | settings | save | attention | notices
deriving DecidableEq, Repr

/-- The 18 status codes, in the order of R205's table. -/
inductive Status where
  | done | staged | busy | unknownTag | tagInUse | tableFull | outletTaken | outletFailed | overBudget | peerDown
  | peerRefused | peerNoAnswer | pinned | stale | wrongState | locked | badRequest | badFrame
deriving DecidableEq, Repr

/-- The cycle phase as LOOKUP gives it (R215). -/
inductive PhaseShown where | none | waiting | opening | dwell | closing
deriving DecidableEq, Repr

/-- What the bytes of a LOOKUP answer are formed from: the slot, the record and the cycle phase (R43). -/
structure LookupView where
  slot : Nat
  load : Load
  phase : PhaseShown
deriving DecidableEq, Repr

/-- A load's state as LIST shows it, like LOOKUP: with the quarantine reason, the cycle phase and the watch sub-state
(R43, R44, R49). -/
structure StateShown where
  state : LoadState
  reason : Option QuarantineReason
  phase : PhaseShown
  watch : WatchSub
deriving DecidableEq, Repr

/-- An entry of LIST (R44). -/
structure ListEntry where
  slot : Nat
  tag : Tag
  shown : StateShown
  revision : Nat
deriving DecidableEq, Repr

/-- An entry of NOTICES (R67). -/
structure NoticeEntry where
  slot : Nat
  tag : Tag
  set : BitVec 13
deriving DecidableEq, Repr

/-- The queue entry of an outlet, as OUTLETS reports it (R131). -/
structure EntryView where
  cause : QueueCause
  prio : Nat
  owner : Owner
  position : Nat
deriving DecidableEq, Repr

/-- An entry of OUTLETS (R151, R199). Ages and times left in ms. -/
structure OutletView where
  outlet : Nat
  branch : Nat
  phase : Phase
  owner : Owner
  reservation : Nat
  releasing : Bool
  shed : Bool
  lineLost : Bool
  adopted : Bool
  held : Bool
  holdLeft : Option Nat
  answer : Option (AnswerKind × Nat)
  service : Service
  commanded : Position
  sensed : Sensed
  switching : Switching
  pendingOpen : Bool
  driftHeld : Bool
  wear : Bool
  closeTime : Nat
  openTime : Nat
  faults : Nat
  ops : Nat
  entry : Option EntryView
deriving DecidableEq, Repr

/-- A shed list entry as OUTLETS reports it (R180): the victim's tag, the kind, the outlets. -/
structure ShedView where
  tag : Tag
  kind : ShedKind
  outlets : List Nat
deriving DecidableEq, Repr

/-- The gate and guard fields of a branch, as OUTLETS reports them (R131, R180). Ages in ms. -/
structure BranchView where
  branch : Nat
  closing : Option Nat
  sinceDrive : Option Nat
  reason : HoldReason
  guard : GuardState
  overCount : Nat
  settle : Option Nat
  restoreAge : Option Nat
  list : List ShedView
deriving DecidableEq, Repr

/-- The answer of OUTLETS (R151, R180). -/
structure OutletsView where
  outlets : List OutletView
  branches : List BranchView
  extActive : Bool
  extClass : Option Nat
  extList : List ShedView
deriving DecidableEq, Repr

/-- An entry of METER for an outlet range (R162). -/
structure MeterOutlet where
  outlet : Nat
  branch : Nat
  phase : Phase
  current : Nat
  power : Nat
  offset : Option Nat
  energy : Nat
deriving DecidableEq, Repr

/-- METER's figures of a branch (R163). -/
structure MeterBranch where
  current : Nat
  outlets : List Nat
  phase : Phase
  state : LineState
  locked : Bool
deriving DecidableEq, Repr

/-- METER's figures of a phase (R163). -/
structure MeterPhase where
  volts : Nat
  freq : Nat
  current : Nat
  state : LineState
  locked : Bool
  run : Nat
  half : Nat
  missed : Option Nat
  goodRunMs : Option Nat
deriving DecidableEq, Repr

/-- The figures of METER, by its selector (R162, R163). -/
inductive MeterFigures where
  | outlets (l : List MeterOutlet)
  | branch (v : MeterBranch)
  | phase (v : MeterPhase)
deriving DecidableEq, Repr

/-- A branch in SETTINGS: its ceiling, threshold, restore mode and reservation sum (R12). -/
structure SettingsBranch where
  branch : Nat
  ceiling : Nat
  threshold : Nat
  restoreMode : RestoreMode
  sum : Nat
deriving DecidableEq, Repr

/-- The answer of SETTINGS (R12, R199): straps, geometry and side in force with their sources (whether
they come from an override), every setting, the sums, and the link. The announcement's age in ms. -/
structure SettingsView where
  straps : Straps
  count : Nat
  countOverridden : Bool
  rating : Nat
  ratingOverridden : Bool
  side : Side
  sideOverridden : Bool
  settings : Settings
  branches : List SettingsBranch
  presence : Presence
  announce : Option Announce
  announceAge : Option Nat
deriving DecidableEq, Repr

/-- The answer of ATTENTION (R208). -/
structure AttentionView where
  flags : Flags
  enables : Flags
  master : Bool
  valid : Bool
  lastSave : SaveResult
deriving DecidableEq, Repr

/-- The body of an answer: the 92 bytes of R215 for LOOKUP, and structures for the others (log 19). -/
inductive AnswerBody where
  | nothing
  | revision (r : Nat)
  | reason (r : RefuseReason)
  | lookup (bytes : List Byte)
  | list (l : List ListEntry) (more : Bool)
  | beat (known unknown : Nat)
  | notices (l : List NoticeEntry) (more : Bool)
  | outlets (v : OutletsView)
  | faults (c : Option Capture) (more : Bool)
  | meter (number : Nat) (age : Option Nat) (f : MeterFigures)
  | settings (v : SettingsView)
  | attention (v : AttentionView)
deriving DecidableEq, Repr

/-- An answer: the kind echoed, the status and the body (R215). -/
structure Answer where
  kind : Byte
  status : Status
  body : AnswerBody
deriving DecidableEq, Repr

/-- The port state with what it holds (R202): the executing request record (its kind and the slot of its
load, log 23) while EXECUTING, the answer while ANSWER_READY. -/
inductive PortState where
  | idle
  | executing (k : ReqKind) (slot : Nat)
  | ready (a : Answer)
deriving DecidableEq, Repr

/-- What MISO carried in the last transaction: 0x00 throughout, NOT_READY, or the answer frame (R200). Its bytes are
`Miso.byteAt`. -/
inductive Miso where
  | nothing
  | notReady
  | answer (a : Answer)
deriving DecidableEq, Repr

/-- The Command Port (R202, R204). -/
structure Port where
  state : PortState
  prstLow : Bool
  miso : Miso
deriving DecidableEq, Repr

/-- MODEL'S OWN (log 12): the branches whose gate (R121), and those whose leaving of HOLD (R174), is still
to be judged in the step being taken. Empty between steps. -/
structure Work where
  gates : List Nat
  lists : List Nat
deriving DecidableEq, Repr

/-- Nothing left to judge. -/
def Work.none : Work := { gates := [], lists := [] }

/-- The state of the part. -/
structure State where
  now : Nat
  restoredAt : Nat
  strap : Straps
  settings : Settings
  slots : Vector Slot 40
  outlets : Vector Outlet 48
  contexts : Vector (Option Context) 8
  waitList : List Waiter
  queue : List Entry
  gates : Vector Gate 6
  guards : Vector Guard 6
  ext : ExtShed
  dripStart : Nat
  lines : Vector Line 3
  meter : Meter
  patrol : Patrol
  capture : Option Capture
  more : Bool
  link : Link
  port : Port
  flags : Flags
  attnLow : Bool
  store : Store
  work : Work
  pending : List Instr
deriving DecidableEq, Repr

/-- Why a step can stop with a fault: nothing. No rule of the manual stops the part (INVENTORY.md,
Faults), so there is no constructor. -/
inductive Fault where
deriving DecidableEq, Repr

/-- Why a step can be refused. -/
inductive Refusal where
  /-- The command has no meaning yet. Raised only by an arm of `exec`; safe. No arm raises it. -/
  | notModelled (mnemonic : String)
deriving DecidableEq, Repr

/-- The part at the start of the restoration steps of a cold reset at moment 0 (R6, R17, R22, R90, R91,
R115, R118, R132, R144, R148, R152 to R158, R165, R175, R183, R185, R189, R202, R206, R209), with settings
at their defaults for the straps given and the nonvolatile image never written. -/
def State.cold (strap : Straps) : State :=
  { now := 0, restoredAt := 0, strap := strap, settings := Settings.defaults (Config.sizeRating strap.size),
    slots := Vector.replicate 40 Slot.empty, outlets := Vector.replicate 48 Outlet.cold,
    contexts := Vector.replicate 8 none, waitList := [], queue := [], gates := Vector.replicate 6 Gate.cold,
    guards := Vector.replicate 6 Guard.cold, ext := { active := false, cls := none, list := [] },
    dripStart := 0, lines := Vector.replicate 3 Line.cold,
    meter := { number := 0, start := 0, locked := false, crossings := 0, lastEnd := none,
               branch := Vector.replicate 6 0 },
    patrol := { pointer := 1, next := Config.patrolPeriod }, capture := none, more := false,
    link := { side := strap.side, presence := .down, announce := none, silence := none,
              nextHello := Config.helloPeriod, counter := 1, tx := [], answers := [] },
    port := { state := .idle, prstLow := false, miso := .nothing }, flags := Flags.none, attnLow := false,
    store := { writing := none, lastSave := .none, valid := false, content := none, mark := false,
               checkOk := false },
    work := Work.none, pending := [] }

/-- The machine right after reset (R17): the first power-up of a part whose straps read SIZE level 0 and
SOLO, whose PRST_N is high and whose image was never written (DESIGN CHOICE, log 4). CONFIG is raised for
the absent image (R214), so ATTN_N is low (R207), and the first HELLO is made (R182). -/
def State.reset : State :=
  { State.cold { size := 0, side := .solo } with
    flags := { Flags.none with config := true }
    attnLow := true
    link := { side := .solo, presence := .down, announce := none, silence := none,
              nextHello := Config.helloPeriod, counter := 1, tx := [.hello .solo 6 16], answers := [] } }

end Sys2Proof.Machine
end

