-- ==== Sys2Proof/Machine/Ops.lean ====
section
/-! DEFINITION. The named reads and writes of state: vectors by number, the timebase, the geometry in force
(R5), outlets, slots, lines, link, and the tag space (R26). -/

namespace Sys2Proof.Machine

/-! ### Vectors by number -/

/-- The element at index `i`, or `d` outside the vector. -/
def vget {α : Type} {n : Nat} (d : α) (v : Vector α n) (i : Nat) : α :=
  if h : i < n then v[i] else d

/-- The vector with the element at index `i` replaced; unchanged outside the vector. -/
def vset {α : Type} {n : Nat} (v : Vector α n) (i : Nat) (a : α) : Vector α n :=
  if h : i < n then v.set i a h else v

/-- The index of a number that counts from 1, beyond every vector for the number 0. -/
def index1 (n : Nat) : Nat := if n = 0 then 48 else n - 1

/-- The outlet numbers of the largest strip. -/
def outletNumbers : List Nat := List.range' 1 48
/-- The branch numbers of the largest strip. -/
def branchNumbers : List Nat := List.range' 1 6
/-- The slot numbers (R22). -/
def slotNumbers : List Nat := List.range 40
/-- The three phases. -/
def phases : List Phase := [.l1, .l2, .l3]

/-- The index of a phase. -/
def phaseIndex : Phase → Nat
  | .l1 => 0 | .l2 => 1 | .l3 => 2

/-- Whether a list names nothing twice. -/
def distinct {α : Type} [DecidableEq α] (numbers : List α) : Bool := decide numbers.Nodup

/-! ### Time -/

/-- The timebase reaches the moment `t` at which a command is taken; it never runs back (R1, log 1). -/
def State.advance (s : State) (t : Nat) : State := { s with now := max s.now t }

/-- Whole ms from a moment to now, rounded down (R1). -/
def State.ageMs (s : State) (moment : Nat) : Nat := (s.now - moment) / Config.ms

/-- Whether a timer runs and has reached its setting (R1). -/
def State.due (s : State) (timer : Option Nat) : Bool :=
  match timer with
  | some d => d ≤ s.now
  | none => false

/-! ### Geometry (R3 to R5) -/

/-- The branch count in force. -/
def State.branchCount (s : State) : Nat := s.settings.countOvr.getD (Config.sizeBranches s.strap.size)
/-- The branch rating in force, in A. -/
def State.rating (s : State) : Nat := s.settings.ratingOvr.getD (Config.sizeRating s.strap.size)
/-- The side in force (R4). -/
def State.side (s : State) : Side := s.settings.sideOvr.getD s.strap.side
/-- The outlet count: 8 for each branch. -/
def State.outletCount (s : State) : Nat := s.branchCount * 8
/-- Whether an outlet number names an outlet in use. -/
def State.inUse (s : State) (n : Nat) : Bool := 1 ≤ n && n ≤ s.outletCount
/-- Whether a branch number names a branch in use. -/
def State.branchInUse (s : State) (b : Nat) : Bool := 1 ≤ b && b ≤ s.branchCount
/-- The branch of an outlet: ⌈n/8⌉. -/
def branchOf (n : Nat) : Nat := (n + 7) / 8
/-- The phase of a branch under a branch count (Conventions, Geometry). -/
def phaseOfBranch (count b : Nat) : Phase :=
  if count = 3 then (if b ≤ 1 then .l1 else if b = 2 then .l2 else .l3)
  else (if b ≤ 2 then .l1 else if b ≤ 4 then .l2 else .l3)
/-- The phase of an outlet under the geometry in force. -/
def State.phaseOf (s : State) (n : Nat) : Phase := phaseOfBranch s.branchCount (branchOf n)
/-- The outlets in use, ascending. -/
def State.outletsInUse (s : State) : List Nat := outletNumbers.filter s.inUse
/-- The branches in use, ascending. -/
def State.branchesInUse (s : State) : List Nat := branchNumbers.filter s.branchInUse
/-- The outlets in use on a phase, ascending. -/
def State.outletsOn (s : State) (p : Phase) : List Nat := s.outletsInUse.filter fun n => s.phaseOf n = p
/-- The branches in use on a phase, ascending. -/
def State.branchesOn (s : State) (p : Phase) : List Nat :=
  s.branchesInUse.filter fun b => phaseOfBranch s.branchCount b = p

/-! ### Outlets -/

/-- The record of an outlet. -/
def State.outlet (s : State) (n : Nat) : Outlet := vget Outlet.cold s.outlets (index1 n)
/-- Replace the record of an outlet. -/
def State.setOutlet (s : State) (n : Nat) (o : Outlet) : State :=
  { s with outlets := vset s.outlets (index1 n) o }
/-- Change the record of an outlet. -/
def State.modOutlet (s : State) (n : Nat) (f : Outlet → Outlet) : State := s.setOutlet n (f (s.outlet n))

/-- Whether the outlet is commanded OPEN with no switching operation in flight. -/
def Outlet.settledOpen (o : Outlet) : Bool := o.commanded = .opened && o.switching = .idle
/-- Whether a switching operation is in flight. -/
def Outlet.busy (o : Outlet) : Bool := o.switching != .idle
/-- Whether the outlet is FREE. -/
def Outlet.isFree (o : Outlet) : Bool := o.owner = .free
/-- Whether the outlet is LENT to the home tag. -/
def Outlet.lentTo (o : Outlet) (tag : Tag) : Bool :=
  match o.owner with
  | .lent t _ _ => t = tag
  | _ => false
/-- Whether the outlet is BOUND or LENT. -/
def Outlet.owned (o : Outlet) : Bool := !o.isFree

/-- The reservation sum of a branch: the sum of the reservations of its BOUND and LENT outlets (R8). -/
def State.branchSum (s : State) (b : Nat) : Nat :=
  outletNumbers.foldl
    (fun acc n => if branchOf n = b && (s.outlet n).owned then acc + (s.outlet n).reservation else acc) 0

/-! ### Settings by branch -/

/-- The admit ceiling of a branch, in dA. -/
def State.ceiling (s : State) (b : Nat) : Nat := vget 0 s.settings.ceiling (index1 b)
/-- The trip threshold of a branch, in dA. -/
def State.threshold (s : State) (b : Nat) : Nat := vget 0 s.settings.threshold (index1 b)
/-- The restore mode of a branch. -/
def State.restoreMode (s : State) (b : Nat) : RestoreMode := vget .auto s.settings.restoreMode (index1 b)
/-- The inrush spacing in force, in steps. -/
def State.spacing (s : State) : Nat := s.settings.spacing * Config.ms
/-- The raise answer limit in force, in steps. -/
def State.raiseLimit (s : State) : Nat := s.settings.raiseLimit * Config.sec

/-! ### Gates, guards and lines -/

/-- The gate of a branch. -/
def State.gate (s : State) (b : Nat) : Gate := vget Gate.cold s.gates (index1 b)
/-- Change the gate of a branch. -/
def State.modGate (s : State) (b : Nat) (f : Gate → Gate) : State :=
  { s with gates := vset s.gates (index1 b) (f (s.gate b)) }
/-- The guard record of a branch. -/
def State.guard (s : State) (b : Nat) : Guard := vget Guard.cold s.guards (index1 b)
/-- Change the guard record of a branch. -/
def State.modGuard (s : State) (b : Nat) (f : Guard → Guard) : State :=
  { s with guards := vset s.guards (index1 b) (f (s.guard b)) }
/-- The branch current of the last window, in cA (R155). -/
def State.branchCurrent (s : State) (b : Nat) : Nat := vget 0 s.meter.branch (index1 b)
/-- The record of a phase. -/
def State.line (s : State) (p : Phase) : Line := vget Line.cold s.lines (phaseIndex p)
/-- Change the record of a phase. -/
def State.modLine (s : State) (p : Phase) (f : Line → Line) : State :=
  { s with lines := vset s.lines (phaseIndex p) (f (s.line p)) }
/-- Whether a phase is up. -/
def State.phaseUp (s : State) (p : Phase) : Bool := (s.line p).state = .up
/-- Whether a phase is lost: declared PHASE_LOSS and not yet declared PHASE_RETURN. -/
def State.phaseLost (s : State) (p : Phase) : Bool := (s.line p).state = .lost

/-- The gate of the branch is judged before the step ends (R121, log 12). -/
def State.gateDue (s : State) (b : Nat) : State :=
  if s.work.gates.contains b then s else { s with work := { s.work with gates := b :: s.work.gates } }
/-- An entry left the shed list of the branch: its leaving of HOLD is judged before the step ends (R174,
log 12). -/
def State.listDue (s : State) (b : Nat) : State :=
  if s.work.lists.contains b then s else { s with work := { s.work with lists := b :: s.work.lists } }

/-! ### Load Table -/

/-- A slot of the table. -/
def State.slot (s : State) (i : Nat) : Slot := vget Slot.empty s.slots i
/-- The record in a slot, or none. -/
def State.load (s : State) (i : Nat) : Option Load := (s.slot i).load
/-- Replace a slot. -/
def State.setSlot (s : State) (i : Nat) (v : Slot) : State := { s with slots := vset s.slots i v }
/-- Put a record into a slot, its counter kept. -/
def State.setLoad (s : State) (i : Nat) (l : Load) : State := s.setSlot i { s.slot i with load := some l }
/-- Change the record in a slot, if there is one. -/
def State.modLoad (s : State) (i : Nat) (f : Load → Load) : State :=
  match s.load i with
  | some l => s.setLoad i (f l)
  | none => s

/-- The local outlets of a record, in list order. -/
def Load.outlets (l : Load) : List Nat := l.locals.map (·.outlet)
/-- The local outlets of the record in a slot. -/
def State.localsOf (s : State) (i : Nat) : List Nat :=
  match s.load i with
  | some l => l.outlets
  | none => []
/-- Whether the record in a slot is in the state. -/
def State.loadIn (s : State) (i : Nat) (st : LoadState) : Bool :=
  match s.load i with
  | some l => l.state = st
  | none => false
/-- Whether the record in a slot has peer outlets. -/
def State.hasPeers (s : State) (i : Nat) : Bool :=
  match s.load i with
  | some l => !l.peers.isEmpty
  | none => false
/-- The occupied slots, ascending. -/
def State.occupied (s : State) : List Nat := slotNumbers.filter fun i => (s.load i).isSome

/-- Whether a tag is the load tag or an alias of the record (R26). -/
def Load.named (l : Load) (tag : Tag) : Bool := l.tag = tag || l.aliases.contains tag
/-- The tag space resolves a tag to the slot of the load that owns it (R26). -/
def State.resolve (s : State) (tag : Tag) : Option Nat :=
  slotNumbers.find? fun i =>
    match s.load i with
    | some l => l.named tag
    | none => false
/-- The slot whose record has the load tag; aliases play no part (R187, R30). -/
def State.slotOfTag (s : State) (tag : Tag) : Option Nat :=
  slotNumbers.find? fun i =>
    match s.load i with
    | some l => l.tag = tag
    | none => false
/-- How many aliases the table holds (R26). -/
def State.aliasCount (s : State) : Nat :=
  slotNumbers.foldl
    (fun acc i =>
      match s.load i with
      | some l => acc + l.aliases.length
      | none => acc) 0

/-- The next value of a revision counter: 65535 is followed by 1 (R22). -/
def nextRevision (c : Nat) : Nat := if 65535 ≤ c then 1 else c + 1
/-- The record takes the next value of its slot's counter as its revision (R27). -/
def State.bumpRevision (s : State) (i : Nat) : State :=
  match s.load i with
  | some l =>
    let r := nextRevision (s.slot i).counter
    s.setSlot i { counter := r, load := some { l with revision := r } }
  | none => s

/-! ### Contexts (R90) -/

/-- A cycle context. -/
def State.context (s : State) (k : Nat) : Option Context := vget none s.contexts k
/-- Replace a cycle context. -/
def State.setContext (s : State) (k : Nat) (c : Option Context) : State :=
  { s with contexts := vset s.contexts k c }
/-- The number of the context that the load in a slot holds. -/
def State.contextOf (s : State) (i : Nat) : Option Nat :=
  (List.range 8).find? fun k =>
    match s.context k with
    | some c => c.slot = i
    | none => false
/-- The context that the load in a slot holds. -/
def State.cycleOf (s : State) (i : Nat) : Option Context :=
  match s.contextOf i with
  | some k => s.context k
  | none => none
/-- Change the context that the load in a slot holds. -/
def State.modCycle (s : State) (i : Nat) (f : Context → Context) : State :=
  match s.contextOf i with
  | some k =>
    match s.context k with
    | some c => s.setContext k (some (f c))
    | none => s
  | none => s
/-- The lowest-numbered free context (R93). -/
def State.freeContext (s : State) : Option Nat := (List.range 8).find? fun k => (s.context k).isNone
/-- Whether the load in a slot is on the wait list (R91). -/
def State.waiting (s : State) (i : Nat) : Bool := s.waitList.any fun w => w.slot = i
/-- The cycle phase of the load in a slot, as LOOKUP shows it (R43). -/
def State.phaseShown (s : State) (i : Nat) : PhaseShown :=
  if s.loadIn i .cycling then
    if s.waiting i then .waiting
    else match s.cycleOf i with
      | some c =>
        match c.phase with
        | .opening => .opening
        | .dwell => .dwell
        | .closing => .closing
      | none => .none
  else .none

/-! ### Link -/

/-- Whether the partner link is UP (R183). -/
def State.linkUp (s : State) : Bool := s.link.presence = .up
/-- Place a frame at the end of the transmit list (R181). -/
def State.transmit (s : State) (f : LinkFrame) : State :=
  { s with link := { s.link with tx := s.link.tx ++ [f] } }

end Sys2Proof.Machine
end

