-- ==== Sys2Proof/Machine/Operands.lean ====
section
/-! DEFINITION. The forms and ranges of request operands (R24, R25, section 1.5), and the codes of requests
and answers (R205). -/

namespace Sys2Proof.Machine

/-- `lo ≤ v ≤ hi`. -/
def within (lo hi v : Nat) : Bool := lo ≤ v && v ≤ hi

/-- The form of a local list (R24), under a rating in A. -/
def localListOk (rating : Nat) (es : List OutletRes) : Bool :=
  within 1 4 es.length && distinct (es.map (·.outlet)) && es.all fun e => within 1 (rating * 10) e.res

/-- The form of a peer list (R24). -/
def peerListOk (es : List OutletRes) : Bool :=
  es.length ≤ 4 && distinct (es.map (·.outlet)) &&
    es.all fun e => within 1 48 e.outlet && within 1 320 e.res

/-- The ranges of a watch policy (R25). -/
def watchPolicyOk (p : WatchPolicy) : Bool :=
  within 1 3600 p.interval && within 1 15 p.miss && within 10 1800 p.span && within 1 200 p.band &&
    within 10 3600 p.grace

/-- The ranges of a cycle policy (R25). -/
def cyclePolicyOk (p : CyclePolicy) : Bool := within 1 120 p.dwell && within 1 15 p.threshold

/-- The default cycle policy (R25). -/
def defaultCyclePolicy : CyclePolicy := { dwell := 10, auto := true, threshold := 3, action := .leaveOn }

/-- The ranges of the policy fields an AMEND carries (R25). -/
def policyChangeOk (p : PolicyChange) : Bool :=
  (match p.prio with | some v => v ≤ 3 | none => true) &&
  (match p.watch with | some (.replace w) => watchPolicyOk w | _ => true) &&
  (match p.cycle with | some c => cyclePolicyOk c | none => true)

/-- Whether the policy fields carried are none. -/
def policyEmpty (p : PolicyChange) : Bool :=
  p.prio.isNone && p.pop.isNone && p.watch.isNone && p.cycle.isNone

/-- Two lists are equal when they hold the same entries, in any order (R30). The lists compared have no
outlet twice, so equal lengths and inclusion say so. -/
def sameEntries (xs ys : List OutletRes) : Bool := xs.length = ys.length && xs.all fun e => ys.contains e

/-- Two local lists name the same outlets (R34, rank 4). -/
def sameOutlets (xs ys : List OutletRes) : Bool :=
  xs.length = ys.length && xs.all fun e => ys.any fun f => f.outlet = e.outlet

/-- The kind byte of a request: its row number (R205). -/
def ReqKind.code : ReqKind → Byte
  | .admitLoad => 1 | .amend => 2 | .retire => 3 | .lookup => 4 | .list => 5 | .pin => 6 | .aliases => 7
  | .powerOn => 8 | .powerOff => 9 | .cycle => 10 | .cancel => 11 | .release => 12 | .beat => 13
  | .outlets => 14 | .revive => 15 | .faults => 16 | .meter => 17 | .reclaim => 18 | .configure => 19
  | .settings => 20 | .save => 21 | .attention => 22 | .notices => 23

/-- The status byte of an answer (R205). -/
def Status.code : Status → Byte
  | .done => 0 | .staged => 1 | .busy => 2 | .unknownTag => 3 | .tagInUse => 4 | .tableFull => 5
  | .outletTaken => 6 | .outletFailed => 7 | .overBudget => 8 | .peerDown => 9 | .peerRefused => 10
  | .peerNoAnswer => 11 | .pinned => 12 | .stale => 13 | .wrongState => 14 | .locked => 15 | .badRequest => 16
  | .badFrame => 17

/-- The code of a load state: 1 to 11 in the order of R49 (R215). -/
def LoadState.code : LoadState → Nat
  | .admitting => 1 | .unpowered => 2 | .starting => 3 | .on => 4 | .stopping => 5 | .cycling => 6
  | .quarantined => 7 | .shed => 8 | .dark => 9 | .stranded => 10 | .retiring => 11

/-- Ratings a branch can have, in A (section 1.5). -/
def ratingOk (v : Nat) : Bool := v = 10 || v = 16 || v = 20 || v = 32
/-- Branch counts a strip can have. -/
def countOk (v : Nat) : Bool := v = 3 || v = 6

/-- Whether a carried value lies in its setting's range and step, under the branch count, the rating and the
branch ceilings that would result (section 1.5, R13). -/
def settingInRange (count rating : Nat) (ceiling : Nat → Nat) : SettingChange → Bool
  | .branchCount v => (match v with | some c => countOk c | none => true)
  | .rating v => (match v with | some r => ratingOk r | none => true)
  | .side _ => true
  | .nominal v => within 1000 2770 v
  | .ceiling b v => within 1 count b && within rating (rating * 10) v
  | .threshold b v => within 1 count b && within (ceiling b) (rating * 10) v
  | .hysteresis v => within 5 50 v
  | .spacing v => within 100 5000 v && v % 100 = 0
  | .restoreMode b _ => within 1 count b
  | .restoreDelay v => within 10 600 v
  | .extClass v => v ≤ 3
  | .extRestore _ => true
  | .dripPeriod v => within 1 255 v
  | .faultThreshold v => within 1 15 v
  | .wearLimit v => within 1000 1000000 v
  | .raiseLimit v => within 10 300 v
  | .enable _ _ => true
  | .master _ => true

/-- Which setting a change names: a kind and, for a per-branch setting or an enable, which one. -/
def settingKey : SettingChange → Nat × Nat
  | .branchCount _ => (0, 0)
  | .rating _ => (1, 0)
  | .side _ => (2, 0)
  | .nominal _ => (3, 0)
  | .ceiling b _ => (4, b)
  | .threshold b _ => (5, b)
  | .hysteresis _ => (6, 0)
  | .spacing _ => (7, 0)
  | .restoreMode b _ => (8, b)
  | .restoreDelay _ => (9, 0)
  | .extClass _ => (10, 0)
  | .extRestore _ => (11, 0)
  | .dripPeriod _ => (12, 0)
  | .faultThreshold _ => (13, 0)
  | .wearLimit _ => (14, 0)
  | .raiseLimit _ => (15, 0)
  | .enable f _ => (16, match f with
      | .loadNotice => 0 | .outletFault => 1 | .branchGuard => 2 | .line => 3 | .peer => 4 | .saveDone => 5
      | .config => 6 | .port => 7)
  | .master _ => (17, 0)

/-- Whether a change carries a geometry field (R13, rank 2). -/
def settingIsGeometry : SettingChange → Bool
  | .branchCount _ => true
  | .rating _ => true
  | .side _ => true
  | _ => false

end Sys2Proof.Machine
end

