-- ==== Sys2Proof/Machine/Frames.lean ====
section
/-! DEFINITION. The byte layouts of section 11.6 (R215): the CRC-16, the request and answer frames, the
partner link frames with their reading back, and the body of a LOOKUP answer. -/

namespace Sys2Proof.Machine

/-! ### CRC-16 and fields -/

/-- One bit of the CRC register: polynomial x¹⁶ + x¹² + x⁵ + 1 (R215). -/
def crcBit (c : Half) : Half := if c.msb then (c <<< 1) ^^^ 0x1021#16 else c <<< 1
/-- One byte, most significant bit first (R215). -/
def crcByte (c : Half) (b : Byte) : Half :=
  crcBit (crcBit (crcBit (crcBit (crcBit (crcBit (crcBit (crcBit (c ^^^ (b.setWidth 16 <<< 8)))))))))
/-- The CRC-16 of the part: the register starts at 0xFFFF, no final inversion (R215). -/
def crc16 (bytes : List Byte) : Half := bytes.foldl crcByte 0xFFFF#16

/-- One byte of a number. -/
def byteOf (n : Nat) : Byte := BitVec.ofNat 8 n
/-- Two bytes, the most significant first (R215). -/
def bytes2 (n : Nat) : List Byte := [byteOf (n / 256), byteOf n]
/-- Four bytes, the most significant first (R215). -/
def bytes4 (n : Nat) : List Byte := [byteOf (n / 16777216), byteOf (n / 65536), byteOf (n / 256), byteOf n]
/-- The four bytes of a tag. -/
def tagBytes (t : Tag) : List Byte := bytes4 t.toNat
/-- The tag of four bytes. -/
def tagOf (a b c d : Byte) : Tag :=
  BitVec.ofNat 32 (((a.toNat * 256 + b.toNat) * 256 + c.toNat) * 256 + d.toNat)

/-- A frame: sync, head bytes, length of the body, body, CRC-16 over everything after the sync (R215). -/
def frameBytes (sync : Byte) (head body : List Byte) : List Byte :=
  let covered := head ++ byteOf body.length :: body
  sync :: covered ++ bytes2 (crc16 covered).toNat

/-! ### Command-port frames -/

/-- A request frame (R215). -/
def requestFrame (kind : Byte) (body : List Byte) : List Byte := frameBytes 0xC3 [kind] body
/-- An answer frame (R215). -/
def answerFrame (kind : Byte) (status : Status) (body : List Byte) : List Byte :=
  frameBytes 0x3C [kind, status.code] body

/-- The bytes of an answer body: none, the 92 of LOOKUP, and a free value of at most 250 where the manual gives no
layout (R215; log 49). -/
def AnswerBody.bytes : AnswerBody → List Byte
  | .nothing => []
  | .lookup bytes => bytes
  | other => (Config.bodyBytes other).take 250

/-- The frame of an answer (R202, R215). -/
def Answer.frame (a : Answer) : List Byte := answerFrame a.kind a.status a.body.bytes

/-- What MISO carries from the first byte of a transaction (R200): 0x00, then NOT_READY or the answer frame. -/
def Miso.lead : Miso → List Byte
  | .nothing => []
  | .notReady => [0x00, 0xEE]
  | .answer a => 0x00 :: a.frame

/-- The byte that MISO carried at a place of the last transaction, counted from 0 (R200): 0x00 where nothing else
goes out, and a free value past an answer frame (log 49). -/
def Miso.byteAt (m : Miso) (place : Nat) : Byte :=
  match m.lead[place]? with
  | some b => b
  | none =>
    match m with
    | .answer a => Config.pastFrame a place
    | _ => 0x00

/-- The byte that MISO carried at a place of the last transaction. -/
def State.misoByte (s : State) (place : Nat) : Byte := s.port.miso.byteAt place

/-- Whether the bytes of a transaction, the first 0xC3 (R200), are a bad frame: it ended before the length byte,
the whole body or both CRC bytes, or the length is above 250, or the CRC does not match (R201). Bytes after
the CRC are ignored (R200). -/
def badRequestFrame : List Byte → Bool
  | sync :: kind :: len :: rest =>
    let covered := kind :: len :: rest.take len.toNat
    sync = 0xC3 && (250 < len.toNat || rest.length < len.toNat + 2 ||
      (rest.drop len.toNat).take 2 != bytes2 (crc16 covered).toNat)
  | short => short.head? = some 0xC3

/-- The kind byte that a BAD_FRAME answer echoes: the one received, or 0 if none was (R201). -/
def receivedKind : List Byte → Byte
  | _ :: kind :: _ => kind
  | _ => 0

/-! ### Partner link frames -/

/-- The byte of a side. -/
def sideCode : Side → Byte
  | .solo => 0 | .a => 1 | .b => 2
/-- The byte of a REFUSED reason. -/
def reasonCode : RefuseReason → Byte
  | .outletTaken => 0 | .overBudget => 1 | .outletFailed => 2

/-- The kind byte of a link frame (R215). -/
def LinkFrame.kind : LinkFrame → Byte
  | .hello _ _ _ => 1 | .bind _ _ _ _ => 2 | .bound _ _ => 3 | .refused _ _ _ => 4 | .unbind _ _ => 5
  | .unbound _ _ => 6 | .drop _ _ _ => 7 | .dropped _ _ => 8 | .dropRefused _ _ => 9 | .raise _ _ => 10
  | .raised _ _ => 11 | .raiseFailed _ _ _ => 12

/-- The home tag and order number that begin a body (R215). -/
def orderBytes (tag : Tag) (order : Nat) : List Byte := tagBytes tag ++ [byteOf order]

/-- The bytes of the entries of a BIND (R215). -/
def entryBytes : List OutletRes → List Byte
  | [] => []
  | e :: es => byteOf e.outlet :: (bytes2 e.res ++ entryBytes es)

/-- The body of a link frame (R181, R215). -/
def LinkFrame.body : LinkFrame → List Byte
  | .hello side count rating => [sideCode side, byteOf count, byteOf rating]
  | .bind tag order entries prio =>
    orderBytes tag order ++ (byteOf entries.length :: (entryBytes entries ++ [byteOf prio]))
  | .bound tag order => orderBytes tag order
  | .refused tag order reason => orderBytes tag order ++ [reasonCode reason]
  | .unbind tag order => orderBytes tag order
  | .unbound tag order => orderBytes tag order
  | .drop tag order hold => orderBytes tag order ++ bytes2 hold
  | .dropped tag order => orderBytes tag order
  | .dropRefused tag order => orderBytes tag order
  | .raise tag order => orderBytes tag order
  | .raised tag order => orderBytes tag order
  | .raiseFailed tag order outlet => orderBytes tag order ++ [byteOf outlet]

/-- The bytes of a link frame (R215). -/
def LinkFrame.bytes (f : LinkFrame) : List Byte := frameBytes 0x96 [f.kind] f.body

/-- Whether the fields of a frame lie in their ranges (R181). -/
def LinkFrame.fieldsOk : LinkFrame → Bool
  | .hello _ count rating => countOk count && ratingOk rating
  | .bind tag order entries prio =>
    tag != 0 && within 1 255 order && within 1 4 entries.length &&
      entries.all (fun e => within 1 48 e.outlet && within 1 320 e.res) && prio ≤ 3
  | .bound tag order => tag != 0 && within 1 255 order
  | .refused tag order _ => tag != 0 && within 1 255 order
  | .unbind tag order => tag != 0 && within 1 255 order
  | .unbound tag order => tag != 0 && within 1 255 order
  | .drop tag order hold => tag != 0 && within 1 255 order && hold ≤ 65535
  | .dropped tag order => tag != 0 && within 1 255 order
  | .dropRefused tag order => tag != 0 && within 1 255 order
  | .raise tag order => tag != 0 && within 1 255 order
  | .raised tag order => tag != 0 && within 1 255 order
  | .raiseFailed tag order outlet => tag != 0 && within 1 255 order && outlet ≤ 48

/-- The entries that bytes spell, three bytes each (R215). -/
def entriesOf : List Byte → Option (List OutletRes)
  | [] => some []
  | o :: h :: l :: rest =>
    (entriesOf rest).map fun es => { outlet := o.toNat, res := h.toNat * 256 + l.toNat } :: es
  | _ => none

/-- The frame that a kind and the body fields after the tag and order number spell, or none where the
kind or the length is not one of R215's. -/
def frameOfFields (kind : Byte) (tag : Tag) (order : Nat) (rest : List Byte) : Option LinkFrame :=
  match kind.toNat, rest with
  | 2, count :: more =>
    if more.length = 3 * count.toNat + 1 then
      match entriesOf (more.take (3 * count.toNat)), more.drop (3 * count.toNat) with
      | some es, [prio] => some (.bind tag order es prio.toNat)
      | _, _ => none
    else none
  | 3, [] => some (.bound tag order)
  | 4, [r] =>
    match r.toNat with
    | 0 => some (.refused tag order .outletTaken)
    | 1 => some (.refused tag order .overBudget)
    | 2 => some (.refused tag order .outletFailed)
    | _ => none
  | 5, [] => some (.unbind tag order)
  | 6, [] => some (.unbound tag order)
  | 7, [h, l] => some (.drop tag order (h.toNat * 256 + l.toNat))
  | 8, [] => some (.dropped tag order)
  | 9, [] => some (.dropRefused tag order)
  | 10, [] => some (.raise tag order)
  | 11, [] => some (.raised tag order)
  | 12, [o] => some (.raiseFailed tag order o.toNat)
  | _, _ => none

/-- The frame that a kind and a body spell (R215). -/
def frameOfBody (kind : Byte) (body : List Byte) : Option LinkFrame :=
  if kind.toNat = 1 then
    match body with
    | [side, count, rating] =>
      match side.toNat with
      | 0 => some (.hello .solo count.toNat rating.toNat)
      | 1 => some (.hello .a count.toNat rating.toNat)
      | 2 => some (.hello .b count.toNat rating.toNat)
      | _ => none
    | _ => none
  else
    match body with
    | a :: b :: c :: d :: order :: rest => frameOfFields kind (tagOf a b c d) order.toNat rest
    | _ => none

/-- The frame that received bytes spell, or none where the frame is dropped: its CRC does not match, its
kind or length is not one of the table's, or a field lies outside its range (R181). -/
def LinkFrame.parse : List Byte → Option LinkFrame
  | sync :: kind :: len :: rest =>
    let body := rest.take len.toNat
    if sync = 0x96 ∧ rest.drop len.toNat = bytes2 (crc16 (kind :: len :: body)).toNat ∧
        body.length = len.toNat then
      match frameOfBody kind body with
      | some f => if f.fieldsOk then some f else none
      | none => none
    else none
  | _ => none

/-! ### The LOOKUP answer body -/

/-- A bit of an indicator byte. -/
def bitAt (k : Nat) (b : Bool) : Nat := if b then 2 ^ k else 0

/-- The codes of R215's LOOKUP layout. -/
def PhaseShown.code : PhaseShown → Nat
  | .none => 0 | .waiting => 1 | .opening => 2 | .dwell => 3 | .closing => 4
/-- Watch sub-state codes (R215). -/
def WatchSub.code : WatchSub → Nat
  | .inactive => 0 | .boot => 1 | .live => 2 | .suspect => 3 | .hung => 4
/-- Quarantine reason codes (R215). -/
def quarantineCode : Option QuarantineReason → Nat
  | none => 0 | some .strikes => 1 | some .outletFailed => 2
/-- Power-on policy codes (R215). -/
def popCode : PowerOnPolicy → Nat
  | .stayOff => 0 | .on => 1 | .last => 2
/-- Watch mode codes (R215). -/
def modeCode : WatchMode → Nat
  | .beat => 0 | .flat => 1 | .beatAndFlat => 2
/-- Outcome codes (R215). -/
def outcomeCode : CycleOutcome → Nat
  | .done => 0 | .cancelled => 1 | .failed _ => 2 | .abandoned _ => 3
/-- Reason codes (R215). -/
def cycleReasonCode : CycleReason → Nat
  | .outletFault => 1 | .peerNoAnswer => 2 | .peerRefused => 3 | .peerLost => 4 | .powerOff => 5 | .lineLoss => 6
/-- The reason of an outcome, 0 for none (R215). -/
def outcomeReasonCode : CycleOutcome → Nat
  | .failed r => cycleReasonCode r
  | .abandoned r => cycleReasonCode r
  | _ => 0
/-- Cause codes (R215). -/
def causeCode : Cause → Nat
  | .hang => 0 | .bootExpiry => 1 | .request => 2

/-- The nine bytes of a watch policy (R215, bytes 17 to 25); 0 where it is absent. -/
def watchPolicyBytes : Option WatchPolicy → List Byte
  | some p => byteOf (modeCode p.mode) :: bytes2 p.interval ++ [byteOf p.miss] ++ bytes2 p.span ++
      [byteOf p.band] ++ bytes2 p.grace
  | none => List.replicate 9 0
/-- The four bytes of a cycle policy (R215, bytes 26 to 29); 0 where it is absent. R215 gives the auto-cycle byte
no codes; yes is 1 and no is 0 by the model's choice (log 39). -/
def cyclePolicyBytes : Option CyclePolicy → List Byte
  | some p => [byteOf p.dwell, byteOf (bitAt 0 p.auto), byteOf p.threshold,
      byteOf (match p.action with | .leaveOn => 0 | .turnOff => 1)]
  | none => List.replicate 4 0
/-- The three bytes of a last cycle outcome (R215, bytes 30 to 32); 0 where it is absent. -/
def outcomeBytes : Option LastOutcome → List Byte
  | some o => [byteOf (outcomeCode o.outcome), byteOf (outcomeReasonCode o.outcome), byteOf (causeCode o.cause)]
  | none => List.replicate 3 0
/-- `n` entries of three bytes, unused entries 0 (R215). -/
def entrySlots : Nat → List OutletRes → List Byte
  | 0, _ => []
  | n + 1, e :: es => byteOf e.outlet :: (bytes2 e.res ++ entrySlots n es)
  | n + 1, [] => [0, 0, 0] ++ entrySlots n []
/-- `n` tags of four bytes, unused entries 0 (R215). -/
def tagSlots : Nat → List Tag → List Byte
  | 0, _ => []
  | n + 1, t :: ts => tagBytes t ++ tagSlots n ts
  | n + 1, [] => [0, 0, 0, 0] ++ tagSlots n []

/-- Byte 76: the staged fields carried (R215). -/
def stagedBits : Option PolicyChange → Nat
  | some p => bitAt 0 p.prio.isSome + bitAt 1 p.pop.isSome +
      (match p.watch with | some (.replace _) => 4 | some .remove => 8 | none => 0) + bitAt 4 p.cycle.isSome
  | none => 0
/-- Bytes 77 to 91: the staged values, 0 where they are not carried (R215). -/
def stagedBytes : Option PolicyChange → List Byte
  | some p => byteOf (p.prio.getD 0) :: byteOf (match p.pop with | some v => popCode v | none => 0) ::
      (watchPolicyBytes (match p.watch with | some (.replace w) => some w | _ => none) ++ cyclePolicyBytes p.cycle)
  | none => List.replicate 15 0

/-- The 92 bytes of a LOOKUP answer body (R215). -/
def LookupView.bytes (v : LookupView) : List Byte :=
  let l := v.load
  [byteOf v.slot] ++ tagBytes l.tag ++ bytes2 l.revision ++
  [byteOf (bitAt 0 l.wantedOn + bitAt 1 l.pinned + bitAt 2 l.awaiting + bitAt 3 l.postCycleBoot +
      bitAt 4 l.watchPolicy.isSome + bitAt 5 l.staged.isSome + bitAt 6 l.lastOutcome.isSome +
      bitAt 7 l.powerTime.isSome),
   byteOf l.state.code, byteOf v.phase.code, byteOf l.watch.sub.code, byteOf (quarantineCode l.qReason),
   byteOf l.prio, byteOf (popCode l.pop), byteOf l.strikes] ++
  bytes2 l.notices.toNat ++ watchPolicyBytes l.watchPolicy ++ cyclePolicyBytes (some l.cyclePolicy) ++
  outcomeBytes l.lastOutcome ++ bytes4 (l.powerTime.getD 0 / Config.ms) ++
  [byteOf l.locals.length, byteOf l.peers.length, byteOf l.aliases.length] ++
  entrySlots 4 l.locals ++ entrySlots 4 l.peers ++ tagSlots 3 l.aliases ++
  [byteOf (stagedBits l.staged)] ++ stagedBytes l.staged

end Sys2Proof.Machine
end

