-- ==== Sys2Proof/Machine/Flags.lean ====
section
/-! DEFINITION. The Attention Unit: raising flags, setting notices, and the attention line (R66, R206, R207). -/

namespace Sys2Proof.Machine

/-- One flag of eight. -/
def Flags.get (g : Flags) : Flag → Bool
  | .loadNotice => g.loadNotice
  | .outletFault => g.outletFault
  | .branchGuard => g.branchGuard
  | .line => g.line
  | .peer => g.peer
  | .saveDone => g.saveDone
  | .config => g.config
  | .port => g.port

/-- Put a value to one flag of eight. -/
def Flags.put (g : Flags) (v : Bool) : Flag → Flags
  | .loadNotice => { g with loadNotice := v }
  | .outletFault => { g with outletFault := v }
  | .branchGuard => { g with branchGuard := v }
  | .line => { g with line := v }
  | .peer => { g with peer := v }
  | .saveDone => { g with saveDone := v }
  | .config => { g with config := v }
  | .port => { g with port := v }

/-- Whether some flag is raised whose enable is set (R207). -/
def Flags.anyEnabled (flags enables : Flags) : Bool :=
  (flags.loadNotice && enables.loadNotice) || (flags.outletFault && enables.outletFault) ||
  (flags.branchGuard && enables.branchGuard) || (flags.line && enables.line) || (flags.peer && enables.peer) ||
  (flags.saveDone && enables.saveDone) || (flags.config && enables.config) || (flags.port && enables.port)

/-- An event raises its flag, whatever the flag's enable (R206). -/
def State.raiseFlag (s : State) (f : Flag) : State := { s with flags := s.flags.put true f }

/-- Where ATTN_N should stand: low while the master enable is set and an enabled flag is raised (R207). -/
def State.lineWanted (s : State) : Bool := s.settings.master && s.flags.anyEnabled s.settings.enables

/-- The attention line is judged (R207). -/
def State.judgeLine (s : State) : State := { s with attnLow := s.lineWanted }

/-- The bit of a notice kind: bit 0 is HANG, and the others follow R66's table (R215). -/
def Notice.bit : Notice → Nat
  | .hang => 0 | .cycleDone => 1 | .cycleFailed => 2 | .quarantined => 3 | .shed => 4 | .cordShed => 5
  | .restored => 6 | .dark => 7 | .stranded => 8 | .outletFault => 9 | .peerNoAnswer => 10
  | .stagedApplied => 11 | .wear => 12

/-- A notice set with one kind added. -/
def addNotice (set : BitVec 13) (k : Notice) : BitVec 13 := set ||| BitVec.ofNat 13 (2 ^ k.bit)
/-- Whether a notice set holds a kind. -/
def hasNotice (set : BitVec 13) (k : Notice) : Bool := set.getLsbD k.bit

/-- An event sets a notice on the load in a slot and raises LOAD_NOTICE (R66). -/
def State.notice (s : State) (i : Nat) (k : Notice) : State :=
  match s.load i with
  | some l => (s.setLoad i { l with notices := addNotice l.notices k }).raiseFlag .loadNotice
  | none => s

end Sys2Proof.Machine
end

