-- ==== Sys2Proof/Machine/Queue.lean ====
section
/-! DEFINITION. The entries of the Energization Queue: their order, insertion and withdrawal (R115 to R117,
R124). The inrush gate is in Gate.lean. -/

namespace Sys2Proof.Machine

/-- Whether an outlet holds a queue entry. -/
def State.hasEntry (s : State) (n : Nat) : Bool := s.queue.any fun e => e.outlet = n
/-- The queue entry of an outlet. -/
def State.entryOf (s : State) (n : Nat) : Option Entry := s.queue.find? fun e => e.outlet = n
/-- The head of a branch: the first entry in queue order whose outlet lies on it (R116). -/
def State.head (s : State) (b : Nat) : Option Entry := s.queue.find? fun e => branchOf e.outlet = b
/-- Whether the queue holds an entry of cause RESTORE on the branch (R174). -/
def State.restoreQueued (s : State) (b : Nat) : Bool :=
  s.queue.any fun e => e.cause = .restore && branchOf e.outlet = b

/-- An entry takes its place: after every entry of higher class, and after those of its class whose
arrival is not later (R116). -/
def placeEntry (e : Entry) : List Entry → List Entry
  | [] => [e]
  | x :: xs =>
    if e.prio < x.prio ∨ (e.prio = x.prio ∧ x.arrival ≤ e.arrival) then x :: placeEntry e xs
    else e :: x :: xs

/-- An insertion, judged against the outlet record by the first row of R117 that matches. -/
def State.insert (s : State) (n : Nat) (owner : Owner) (cause : QueueCause) (prio : Nat) : State :=
  let o := s.outlet n
  if s.hasEntry n then s
  else if !s.inUse n || !o.adopted || o.owner != owner || o.releasing then s
  else if o.service = .failed then s
  else if o.commanded = .closed then s
  else if s.phaseLost (s.phaseOf n) then s.setOutlet n { o with lineLost := true }
  else
    { s with queue := placeEntry { outlet := n, owner := owner, prio := prio, cause := cause, arrival := s.now }
                        s.queue }.gateDue (branchOf n)

/-- Insertions of a load's outlets on the load's behalf, with its priority class, in the order given. -/
def State.insertLocals (s : State) (i : Nat) (cause : QueueCause) (ns : List Nat) : State :=
  match s.load i with
  | some l => ns.foldl (fun s n => s.insert n (.bound i) cause l.prio) s
  | none => s

/-- The insertion of a LENT outlet on its owner's behalf, with the class of its owner value (R128). -/
def State.insertLent (s : State) (cause : QueueCause) (n : Nat) : State :=
  match (s.outlet n).owner with
  | .lent t k p => s.insert n (.lent t k p) cause p
  | _ => s

/-- A withdrawal of an outlet's entry, if it has one; the branch's gate is judged (R124). -/
def State.withdraw (s : State) (n : Nat) : State :=
  if s.hasEntry n then
    { s with queue := s.queue.filter fun e => e.outlet != n }.gateDue (branchOf n)
  else s

/-- Every entry of the outlets is withdrawn. -/
def State.withdrawAll (s : State) (ns : List Nat) : State := ns.foldl State.withdraw s

end Sys2Proof.Machine
end

