-- ==== Sys2Proof/Machine/Switching.lean ====
section
/-! DEFINITION. The Switching Unit: aiming drives (R135, R138, R157), taking open and close requests (R134,
R137), learning and wear (R139, R140). What an operation's end means to its owner is in Owners.lean. -/

namespace Sys2Proof.Machine

/-- The reference half-period of a phase: the mean of its last in-range half-cycles, 10.00 ms while there
are none (R156). Its rounding to a step is a free value (log 8). -/
def Line.half (l : Line) : Nat :=
  if l.halves.isEmpty then Config.halfDefault
  else Config.quotient .halfPeriod l.halves.sum l.halves.length

/-- The first moment `lead` before one of the crossings `base + k * period` that is not earlier than
`from` (R135, R138). -/
def firstAim (base period lead earliest : Nat) : Nat :=
  let target := earliest + lead
  if target ≤ base then base - lead
  else base + (target - base + period - 1) / period * period - lead

/-- The drive of an operation: aimed while the phase is LOCKED, at the crossings predicted from its last
crossing and its reference half-period (R157) with `offset` added; unaimed at the earliest moment while it
is FREE. -/
def State.aim (s : State) (n offset time earliest : Nat) : Drive :=
  let line := s.line (s.phaseOf n)
  match line.lastCross with
  | some c =>
    if line.locked then
      { moment := firstAim (c + offset) line.half (time * Config.ms) earliest, aimed := true, issued := none }
    else { moment := earliest, aimed := false, issued := none }
  | none => { moment := earliest, aimed := false, issued := none }

/-- The earliest moment of a close drive: now, and the inrush spacing after the branch's last close drive
(R135). -/
def State.closeEarliest (s : State) (n : Nat) : Nat :=
  match (s.gate (branchOf n)).lastDrive with
  | some d => max s.now (d + s.spacing)
  | none => s.now

/-- The drive of a close (R135). -/
def State.closeDriveOf (s : State) (n : Nat) : Drive :=
  s.aim n 0 (s.outlet n).closeTime (s.closeEarliest n)

/-- The drive of an open: aimed at a current crossing when the outlet's RMS current is above 10 cA and its
offset present, and at a voltage crossing otherwise (R138). -/
def State.openDriveOf (s : State) (n : Nat) : Drive :=
  let o := s.outlet n
  s.aim n (if 10 < o.current then o.offset.getD 0 else 0) o.openTime s.now

/-- An open operation starts (R137). -/
def State.startOpen (s : State) (n : Nat) : State :=
  s.setOutlet n
    { s.outlet n with commanded := .opened, switching := .opening, pendingOpen := false,
                      drive := some (s.openDriveOf n) }

/-- An open request (R137): it withdraws the outlet's entry, then acts by the first row that matches. In
the last row, an open that ends at once, nothing changes. -/
def State.openRequest (s : State) (n : Nat) : State :=
  let s := s.withdraw n
  let o := s.outlet n
  match o.switching with
  | .opening => s
  | .closing => s.setOutlet n { o with pendingOpen := true }
  | .idle => if o.commanded = .closed ∨ o.sensed = .live then s.startOpen n else s

/-- An open request for each outlet that is commanded CLOSED. -/
def State.openClosed (s : State) (ns : List Nat) : State :=
  ns.foldl (fun s n => if (s.outlet n).commanded = .closed then s.openRequest n else s) s

/-- Whether the Switching Unit takes a close request for the outlet (R134). -/
def Outlet.takesClose (o : Outlet) : Bool :=
  o.service = .inService && o.switching = .idle && o.commanded = .opened && o.adopted && !o.releasing

/-- A close operation starts: a close request taken (R134). -/
def State.startClose (s : State) (n : Nat) : State :=
  s.setOutlet n
    { s.outlet n with commanded := .closed, switching := .closing, drive := some (s.closeDriveOf n) }

/-- The operation in flight ends at the outlet: IDLE, no drive held. -/
def Outlet.ended (o : Outlet) : Outlet := { o with switching := .idle, drive := none }

/-- Any drive issued to the outlet clears its drift held flag (R146) and is noted in a recheck (R145). -/
def Outlet.driven (o : Outlet) : Outlet :=
  { o with driftHeld := false, recheck := o.recheck.map fun r => { r with driven := true } }

/-- Learning (R139): a measurement from 2 to 20 ms moves the time a quarter of the way toward it, the
result rounded toward the measurement. -/
def learn (stored measured : Nat) : Nat :=
  if 2 ≤ measured ∧ measured ≤ 20 then
    if stored ≤ measured then stored + (measured - stored + 3) / 4 else stored - (stored - measured + 3) / 4
  else stored

/-- The drive-to-confirmation time in whole ms (R139); its rounding is a free value (log 8). -/
def State.measured (s : State) (issued : Nat) : Nat :=
  Config.quotient .operateTime (s.now - issued) Config.ms

/-- A confirmed operation with a drive is counted (R140). -/
def Outlet.counted (o : Outlet) : Outlet := { o with ops := min Config.opsMax (o.ops + 1) }

/-- The wear judgement after a confirmed operation: wear reported is set at the limit, with the notice
WEAR on the load of a BOUND outlet (R140). For an outlet still releasing after its record was removed that is the slot's
present record, or none: the model's choice (log 41). -/
def State.judgeWear (s : State) (n : Nat) : State :=
  let o := s.outlet n
  if s.settings.wearLimit ≤ o.ops ∧ o.wear = false then
    let s := s.setOutlet n { o with wear := true }
    match o.owner with
    | .bound i => s.notice i .wear
    | _ => s
  else s

/-- The sensed position that a measured voltage gives on a phase (R133): UNKNOWN unless the phase is up,
LIVE at or above half the nominal phase voltage. -/
def State.sensedFor (s : State) (n volts : Nat) : Sensed :=
  if s.inUse n && s.phaseUp (s.phaseOf n) then (if s.settings.nominal ≤ 2 * volts then .live else .dead)
  else .unknown

/-- Whether a sensed position agrees with a commanded one. -/
def agrees (sensed : Sensed) (commanded : Position) : Bool :=
  match sensed, commanded with
  | .live, .closed => true
  | .dead, .opened => true
  | _, _ => false

/-- The outlet takes its sensed position from its voltage; drift held is cleared when the position comes
to agree with the commanded one (R133, R146). -/
def State.sense (s : State) (n volts : Nat) : State :=
  let o := s.outlet n
  let p := s.sensedFor n volts
  s.setOutlet n
    { o with volts := volts, sensed := p,
             driftHeld := o.driftHeld && !(p != o.sensed && agrees p o.commanded) }

/-- Every outlet of the list is sensed anew from the voltage it has. -/
def State.senseAll (s : State) (ns : List Nat) : State :=
  ns.foldl (fun s n => s.sense n (s.outlet n).volts) s

end Sys2Proof.Machine
end

