-- ==== Sys2Proof/Machine/Shed.lean ====
section
/-! DEFINITION. Shed lists and shed markers (R171): how entries are made and how outlets and victims leave
them. -/

namespace Sys2Proof.Machine

/-- The shed list of a branch is replaced; where entries have left it, the branch's leaving of HOLD is
judged before the step ends (R174). -/
def State.setShedList (s : State) (b : Nat) (l : List ShedEntry) : State :=
  let g := s.guard b
  let s := s.modGuard b fun g => { g with list := l }
  if l.length < g.list.length ∧ g.state = .hold then s.listDue b else s

/-- The external shed list is replaced. -/
def State.setExtList (s : State) (l : List ShedEntry) : State := { s with ext := { s.ext with list := l } }

/-- A change of every shed list: each branch's and the external one. -/
def State.onShedLists (s : State) (f : List ShedEntry → List ShedEntry) : State :=
  let s := branchNumbers.foldl (fun s b => s.setShedList b (f (s.guard b).list)) s
  s.setExtList (f s.ext.list)

/-- A victim's entries leave every list that names it. -/
def State.dropVictim (s : State) (v : Victim) : State :=
  s.onShedLists fun l => l.filter fun e => e.victim != v

/-- The shed markers of the outlets are cleared. -/
def State.clearShed (s : State) (ns : List Nat) : State :=
  ns.foldl (fun s n => s.modOutlet n fun o => { o with shed := false }) s
/-- The line-lost markers of the outlets are cleared. -/
def State.clearLineLost (s : State) (ns : List Nat) : State :=
  ns.foldl (fun s n => s.modOutlet n fun o => { o with lineLost := false }) s

/-- A list without an outlet; an entry left with no outlets is removed (R171). -/
def listWithout (n : Nat) (l : List ShedEntry) : List ShedEntry :=
  (l.map fun e => { e with outlets := e.outlets.filter fun k => k != n }).filter fun e => !e.outlets.isEmpty

/-- An outlet leaves its entry and its shed marker is cleared (R171). -/
def State.leaveShed (s : State) (n : Nat) : State :=
  if (s.outlet n).shed then
    (s.onShedLists (listWithout n)).modOutlet n fun o => { o with shed := false }
  else s

/-- Every shed list entry, of the branches and of the external list. -/
def State.shedEntries (s : State) : List ShedEntry :=
  branchNumbers.flatMap (fun b => (s.guard b).list) ++ s.ext.list

/-- Whether some list holds a CORD entry of the load in a slot (R171). -/
def State.hasCord (s : State) (i : Nat) : Bool :=
  s.shedEntries.any fun e => e.kind = .cord && e.victim = .slot i

/-- A confirmed close takes the outlet out of its entry; the notice RESTORED is set where that was the
last outlet of the load's CORD entries (R171). -/
def State.closedLeavesShed (s : State) (n : Nat) : State :=
  let t := s.leaveShed n
  match (s.outlet n).owner with
  | .bound i => if s.hasCord i && !t.hasCord i then t.notice i .restored else t
  | _ => t

/-- The load is taken out of the shed lists and its local outlets' shed markers are cleared (R171). -/
def State.unshedLoad (s : State) (i : Nat) : State :=
  (s.dropVictim (.slot i)).clearShed (s.localsOf i)

/-- A victim's newly marked outlets go into its entry on a list, or into a new entry at its end (R171). -/
def recordVictim (v : Victim) (k : ShedKind) (ns : List Nat) : List ShedEntry → List ShedEntry
  | [] => [{ victim := v, kind := k, outlets := ns }]
  | e :: es =>
    if e.victim = v then { e with outlets := e.outlets ++ ns.filter fun n => !e.outlets.contains n } :: es
    else e :: recordVictim v k ns es

/-- Where a shed is recorded: on a branch's list or on the external list. -/
inductive ShedPlace where
  | branch (b : Nat)
  | ext
deriving DecidableEq, Repr

/-- The outlets of a shed are given the shed marker and recorded. An outlet that already stands in an
entry stays in that one (R171: at most one entry; log 16). -/
def State.markShed (s : State) (place : ShedPlace) (v : Victim) (k : ShedKind) (ns : List Nat) : State :=
  let fresh := ns.filter fun n => !(s.outlet n).shed
  let s := fresh.foldl (fun s n => s.modOutlet n fun o => { o with shed := true }) s
  if fresh.isEmpty then s
  else match place with
    | .branch b => s.modGuard b fun g => { g with list := recordVictim v k fresh g.list }
    | .ext => s.setExtList (recordVictim v k fresh s.ext.list)

end Sys2Proof.Machine
end

