-- ==== Sys2Proof/Machine/Orders.lean ====
section
/-! DEFINITION. Sending orders in the home role (R185, R186). -/

namespace Sys2Proof.Machine

/-- The order counter after a number is drawn: 255 is followed by 1 (R185). -/
def nextOrder (k : Nat) : Nat := if 255 ≤ k then 1 else k + 1

/-- To send an order: draw a number, make or replace the load's record, place the frame and set the
deadline, in one step (R185). -/
def State.sendOrder (s : State) (i : Nat) (kind : OrderKind) (sender : Sender) (limit : Nat)
    (frame : Tag → Nat → LinkFrame) : State :=
  match s.load i with
  | some l =>
    let k := s.link.counter
    let s := { s with link := { s.link with counter := nextOrder k } }
    (s.setLoad i
      { l with order := some { kind := kind, number := k, deadline := s.now + limit, sender := sender } }).transmit
      (frame l.tag k)
  | none => s

/-- BIND, with a deadline of 1 s (R186). It carries the record's priority class. -/
def State.sendBind (s : State) (i : Nat) (sender : Sender) (entries : List OutletRes) : State :=
  match s.load i with
  | some l => s.sendOrder i .bind sender Config.bindDeadline fun t k => .bind t k entries l.prio
  | none => s

/-- UNBIND, with a deadline of 1 s (R186). -/
def State.sendUnbind (s : State) (i : Nat) (sender : Sender) : State :=
  s.sendOrder i .unbind sender Config.bindDeadline fun t k => .unbind t k

/-- DROP with a hold limit in s, and a deadline of 3 s (R186). -/
def State.sendDrop (s : State) (i : Nat) (sender : Sender) (hold : Nat) : State :=
  s.sendOrder i .drop sender Config.dropDeadline fun t k => .drop t k hold

/-- RAISE, with the raise answer limit in force as its deadline (R186). -/
def State.sendRaise (s : State) (i : Nat) (sender : Sender) : State :=
  s.sendOrder i .raise sender s.raiseLimit fun t k => .raise t k

/-- The number of the load's outstanding order. -/
def State.orderNumber (s : State) (i : Nat) : Option Nat :=
  match s.load i with
  | some l => l.order.map (·.number)
  | none => none

/-- Whether an order of the kind is outstanding for the load. -/
def State.orderOut (s : State) (i : Nat) (k : OrderKind) : Bool :=
  match s.load i with
  | some l =>
    match l.order with
    | some o => o.kind = k
    | none => false
  | none => false

/-- DROP with hold limit 0, or the notice PEER_NO_ANSWER where the link is not UP, for a load with peer
outlets (R57, R85). -/
def State.dropPeers (s : State) (i : Nat) (sender : Sender) : State :=
  if s.hasPeers i then
    if s.linkUp then s.sendDrop i sender 0 else s.notice i .peerNoAnswer
  else s

end Sys2Proof.Machine
end

