-- ==== Sys2Proof/Machine/Watch.lean ====
section
/-! DEFINITION. The watch of a load: starting, restarting and stopping it (R70 to R76), taking up a watch
policy (R78), policy changes and the latch (R37, R39), and a load's moves between states (R54, R55, R70). -/

namespace Sys2Proof.Machine

/-- Whether a mode is a beat mode (R69). -/
def watchBeats (p : WatchPolicy) : Bool := p.mode != .flat
/-- Whether a mode is a flat mode (R69). -/
def watchFlats (p : WatchPolicy) : Bool := p.mode != .beat

/-- A watch in BOOT, its grace running from now (R70). -/
def Watch.inBoot (p : WatchPolicy) (now : Nat) : Watch :=
  { Watch.stopped with sub := .boot, boot := some (now + p.grace * Config.sec) }
/-- A watch restarted in LIVE from now: the beat deadline runs in a beat mode, the span is cleared
(R72, R75). -/
def Watch.inLive (p : WatchPolicy) (now : Nat) : Watch :=
  { Watch.stopped with
    sub := .live
    beat := if watchBeats p then some (now + p.interval * p.miss * Config.sec) else none }
/-- A watch in HUNG: it runs no timer and judges no window (R77). -/
def Watch.inHung : Watch := { Watch.stopped with sub := .hung }
/-- The flat span is cleared: the reference and the flat sign become absent (R75). -/
def Watch.spanCleared (w : Watch) : Watch := { w with ref := none, spanStart := 0, flatSign := false }

/-- The watch after a policy is taken up in ON (R78). -/
def Watch.taking (w : Watch) (new : Option WatchPolicy) (now : Nat) : Watch :=
  match new with
  | none => Watch.stopped
  | some p =>
    match w.sub with
    | .inactive => Watch.inBoot p now
    | .boot => Watch.inBoot p now
    | .live => Watch.inLive p now
    | .suspect => Watch.inLive p now
    | .hung => w

/-- A watch policy taken up in the step of its change, by the load's state (R78). Post-cycle boot is
cleared when the watch leaves BOOT (R38). -/
def Load.takeUp (l : Load) (now : Nat) : Load :=
  if l.state = .on then
    let w := l.watch.taking l.watchPolicy now
    { l with watch := w, postCycleBoot := l.postCycleBoot && w.sub = .boot }
  else l

/-- Policy fields replace the record's, with the clip of the strike count (R37). -/
def Load.withPolicy (l : Load) (p : PolicyChange) : Load :=
  let cyc := p.cycle.getD l.cyclePolicy
  { l with
    prio := p.prio.getD l.prio
    pop := p.pop.getD l.pop
    watchPolicy := (match p.watch with
      | some (.replace w) => some w
      | some .remove => none
      | none => l.watchPolicy)
    cyclePolicy := cyc
    strikes := if p.cycle.isSome then min l.strikes cyc.threshold else l.strikes }

/-- Policy fields are applied at once; a watch policy carried is taken up where `take` says so (R37, R78), be it
equal to the present one: the model's choice (log 35). The revision is the caller's. -/
def Load.applied (l : Load) (p : PolicyChange) (take : Bool) (now : Nat) : Load :=
  let l := l.withPolicy p
  if take && p.watch.isSome then Load.takeUp l now else l

/-- The latch of a staged amendment, if one is held (R39). In the first-beat and boot-grace cases of R71
the arrival itself judges the new watch policy, and `take` is false. -/
def State.latch (s : State) (i : Nat) (take : Bool) : State :=
  match s.load i with
  | some l =>
    match l.staged with
    | some p =>
      ((s.setLoad i { Load.applied l p take s.now with staged := none }).bumpRevision i).notice i .stagedApplied
    | none => s
  | none => s

/-- How the watch of a load that enters ON is set: in BOOT, or as the entries that name LIVE or HUNG say
(R70). -/
inductive OnWatch where | boot | live | hung
deriving DecidableEq, Repr

/-- The watch of a load that enters ON at `now` (R70): INACTIVE where the load has no watch policy. -/
def watchOn (policy : Option WatchPolicy) (how : OnWatch) (now : Nat) : Watch :=
  match policy with
  | none => Watch.stopped
  | some p =>
    match how with
    | .boot => Watch.inBoot p now
    | .live => Watch.inLive p now
    | .hung => Watch.inHung

/-- The record of a load that enters ON (R55): power time, watch, and post-cycle boot where the entry ends
a cycle with the watch entering BOOT. -/
def Load.inOn (l : Load) (how : OnWatch) (endsCycle : Bool) (now : Nat) : Load :=
  let w := watchOn l.watchPolicy how now
  { l with state := .on, qReason := none, powerTime := some now, watch := w,
           postCycleBoot := endsCycle && w.sub = .boot, startRestored := false }

/-- The load enters ON (R55): RESTORED for a start that was a restore or came from SHED or DARK, and a
staged amendment latches when the load leaves CYCLING with a watch other than BOOT (R39). The watch is set by the
policy in force before the latch, which then takes the latched policy up (R78): the model's choice (log 42). -/
def State.enterOn (s : State) (i : Nat) (how : OnWatch) (endsCycle : Bool) : State :=
  match s.load i with
  | some l =>
    let t := s.setLoad i (Load.inOn l how endsCycle s.now)
    let t := if l.state = .starting && l.startRestored then t.notice i .restored else t
    if l.state = .cycling && (watchOn l.watchPolicy how s.now).sub != .boot then t.latch i true else t
  | none => s

/-- The record of a load in a state other than ON: its watch is HUNG in STRANDED and INACTIVE elsewhere,
post-cycle boot clear (R38, R69, R70), and a quarantine reason only in QUARANTINED (R23). -/
def Load.inState (l : Load) (st : LoadState) : Load :=
  { l with state := st, watch := if st = .stranded then Watch.inHung else Watch.stopped, postCycleBoot := false,
           qReason := if st = .quarantined then l.qReason else none }

/-- The load goes to a state other than ON. A staged amendment latches when the load leaves ON while
post-cycle boot is set, or leaves CYCLING; a load that enters CYCLING keeps it staged (R38, R39). -/
def State.moveTo (s : State) (i : Nat) (st : LoadState) : State :=
  match s.load i with
  | some l =>
    let t := s.setLoad i (Load.inState l st)
    if st != .cycling && (l.state = .cycling || (l.state = .on && l.postCycleBoot)) then t.latch i true else t
  | none => s

end Sys2Proof.Machine
end

