-- ==== Sys2Proof/Machine/Loads.lean ====
section
/-! DEFINITION. What a load's state changes carry with them: the start and its completion (R52, R54), the
stop and its completion (R57, R58), quarantine (R84, R85) and STRANDED (R86). -/

namespace Sys2Proof.Machine

/-- Whether some outlet of a list has a property. -/
def State.anyOutlet (s : State) (ns : List Nat) (p : Outlet → Bool) : Bool := ns.any fun n => p (s.outlet n)

/-- Whether an outlet is commanded CLOSED. -/
def Outlet.isClosed (o : Outlet) : Bool := o.commanded = .closed
/-- Whether an outlet is FAILED. -/
def Outlet.isFailed (o : Outlet) : Bool := o.service = .failed
/-- Whether a close is in flight on an outlet. -/
def Outlet.isClosing (o : Outlet) : Bool := o.switching = .closing

/-! ### Starting -/

/-- Whether a STARTING load is complete: no local outlet has an entry or a close in flight, and no RAISE is
outstanding (R54). -/
def State.startComplete (s : State) (i : Nat) : Bool :=
  !(s.localsOf i).any s.hasEntry && !s.anyOutlet (s.localsOf i) Outlet.isClosing && !s.orderOut i .raise

/-- The load goes DARK with its notice (R54, R110, R178, R20). Entries of its outlets on phases that are up stay and
are granted as any other, since R124 names no withdrawal here (R129): the model's reading against R49 (log 17). -/
def State.goDark (s : State) (i : Nat) : State := (s.moveTo i .dark).notice i .dark

/-- The completion of a start is judged: a complete STARTING load goes to ON, DARK or UNPOWERED (R54). -/
def State.judgeStart (s : State) (i : Nat) : State :=
  if s.loadIn i .starting && s.startComplete i then
    let ns := s.localsOf i
    if s.anyOutlet ns Outlet.isClosed || s.hasPeers i then s.enterOn i .boot false
    else if s.anyOutlet ns (·.lineLost) && !s.anyOutlet ns (fun o => !o.isFailed && !o.lineLost) then
      s.goDark i
    else s.moveTo i .unpowered
  else s

/-- Step 3 of a start for one local outlet (R52). -/
def State.startOutlet (s : State) (i : Nat) (cause : QueueCause) (n : Nat) : State :=
  let o := s.outlet n
  if o.isFailed then s
  else if s.phaseLost (s.phaseOf n) then s.setOutlet n { o with lineLost := true }
  else (s.setOutlet n { o with lineLost := false }).insertLocals i cause [n]

/-- RAISE for a load with peer outlets, or the notice PEER_NO_ANSWER where the link is not UP (R52). -/
def State.raisePeers (s : State) (i : Nat) : State :=
  if s.hasPeers i then
    if s.linkUp then s.sendRaise i .start else s.notice i .peerNoAnswer
  else s

/-- The record of a load whose start begins: STARTING, wanted-on set, and whether the start is a restore or
came from SHED or DARK (R52, R55). -/
def Load.inStart (l : Load) (cause : QueueCause) : Load :=
  { Load.inState l .starting with
    wantedOn := true
    startRestored := cause = .restore || l.state = .shed || l.state = .dark }

/-- A start (R52), with cause POWER_ON for a request and RESTORE for a restore. -/
def State.start (s : State) (i : Nat) (cause : QueueCause) : State :=
  let s := (s.modLoad i fun l => Load.inStart l cause).unshedLoad i
  let s := (s.localsOf i).foldl (fun s n => s.startOutlet i cause n) s
  (s.raisePeers i).judgeStart i

/-! ### Stopping -/

/-- Whether a STOPPING load is complete: no local outlet is commanded CLOSED or switching, and no DROP is
outstanding (R58). -/
def State.stopComplete (s : State) (i : Nat) : Bool :=
  !s.anyOutlet (s.localsOf i) (fun o => !o.settledOpen) && !s.orderOut i .drop

/-- The completion of a stop is judged: a complete STOPPING load goes to UNPOWERED (R58). -/
def State.judgeStop (s : State) (i : Nat) : State :=
  if s.loadIn i .stopping && s.stopComplete i then s.moveTo i .unpowered else s

/-- A load whose outlets stand open is to stay so: its entries are withdrawn, and it leaves the shed lists, its
shed markers cleared (R61). -/
def State.restOpen (s : State) (i : Nat) : State := (s.withdrawAll (s.localsOf i)).unshedLoad i

/-- Every local outlet asked to be open for good: entries withdrawn, the load out of the shed lists, both
markers cleared, and an open request for each outlet commanded CLOSED (R57, R85, R94). -/
def State.openLoad (s : State) (i : Nat) : State :=
  let ns := s.localsOf i
  ((s.restOpen i).clearLineLost ns).openClosed ns

/-- A stop (R57). -/
def State.stop (s : State) (i : Nat) : State :=
  let s := (s.moveTo i .stopping).modLoad i fun l => { l with wantedOn := false }
  ((s.openLoad i).dropPeers i .stop).judgeStop i

/-! ### Quarantine and STRANDED -/

/-- The action TURN_OFF at the entry into QUARANTINED (R85). -/
def State.turnOff (s : State) (i : Nat) : State :=
  let s := s.modLoad i fun l => { l with wantedOn := false }
  (s.openLoad i).dropPeers i .quarantine

/-- Entry into QUARANTINED with its notice and the quarantine action of the policy in force (R84). -/
def State.quarantine (s : State) (i : Nat) (r : QuarantineReason) : State :=
  match s.load i with
  | some l =>
    let s := ((s.moveTo i .quarantined).modLoad i fun l => { l with qReason := some r }).notice i .quarantined
    match l.cyclePolicy.action with
    | .turnOff => s.turnOff i
    | .leaveOn => s
  | none => s

/-- Entry into STRANDED with its notice (R86). -/
def State.strand (s : State) (i : Nat) : State := (s.moveTo i .stranded).notice i .stranded

/-- Whether a local outlet of the load is FAILED (R82, row 4). -/
def State.failedLocal (s : State) (i : Nat) : Bool := s.anyOutlet (s.localsOf i) Outlet.isFailed

end Sys2Proof.Machine
end

