-- ==== Sys2Proof/Machine/Cycle.lean ====
section
/-! DEFINITION. The Cycle Engine: taking a context, OPENING, DWELL, CLOSING, outcomes, abandonment (R87, R90
to R111), and the confirmed-hang decision that starts cycles (R82). -/

namespace Sys2Proof.Machine

/-! ### Contexts and progress -/

/-- A failure sets the pending outcome unless a FAILED outcome is already pending; it replaces a pending
CANCELLED (R106). -/
def Context.failing (c : Context) (r : CycleReason) : Context :=
  match c.pending with
  | some (.failed _) => c
  | _ => { c with pending := some (.failed r) }

/-- The outlet is added to local progress (R96, R103). -/
def Context.settling (c : Context) (n : Nat) : Context :=
  if c.progress.contains n then c else { c with progress := n :: c.progress }

/-- Whether the load in a slot holds a context in the phase. -/
def State.cycleIn (s : State) (i : Nat) (p : CyclePhase) : Bool :=
  match s.cycleOf i with
  | some c => c.phase = p
  | none => false

/-- Whether every local outlet is settled and no answer of the partner is awaited (R96, R105). -/
def State.phaseSettled (s : State) (i : Nat) : Bool :=
  match s.cycleOf i with
  | some c => (s.localsOf i).all (fun n => c.progress.contains n) && c.peer != .asked
  | none => false

/-- The context of the load is freed; an order still outstanding becomes the load's own (R185). -/
def State.dropContext (s : State) (i : Nat) : State :=
  let s := match s.contextOf i with
    | some k => s.setContext k none
    | none => s
  s.modLoad i fun l =>
    { l with order := l.order.map fun o => if o.sender = .cycle then { o with sender := .load } else o }

/-! ### OPENING and DWELL -/

/-- The end of OPENING is judged: with everything settled, DWELL begins and its deadline is set one off
dwell ahead (R96, R100). -/
def State.judgeOpening (s : State) (i : Nat) : State :=
  if s.cycleIn i .opening && s.phaseSettled i then
    match s.load i with
    | some l =>
      s.modCycle i fun c =>
        { c with phase := .dwell, progress := [], deadline := some (s.now + l.cyclePolicy.dwell * Config.sec) }
    | none => s
  else s

/-- The cycle's DROP, its hold limit the off dwell plus the raise answer limit plus 10 s (R95). -/
def State.cycleDrop (s : State) (i : Nat) : State :=
  match s.load i with
  | some l =>
    if l.peers.isEmpty then s
    else
      let s := s.sendDrop i .cycle (l.cyclePolicy.dwell + s.settings.raiseLimit + 10)
      s.modCycle i fun c =>
        { c with order := s.orderNumber i, peer := .asked, deadline := some (s.now + Config.dropDeadline) }
  | none => s

/-- The start of OPENING for the load in slot `i`, which takes context `k` (R94). -/
def State.openingStart (s : State) (k i : Nat) (cause : Cause) : State :=
  let s := s.setContext k
    (some { slot := i, phase := .opening, cause := cause, order := none, deadline := none, progress := [],
            peer := .none, pending := none })
  let s := s.openLoad i
  let s := s.modCycle i fun c => { c with progress := (s.localsOf i).filter fun n => (s.outlet n).settledOpen }
  (s.cycleDrop i).judgeOpening i

/-- The decision at the taking of a context, for the loads of the wait list in their order, until one takes
the free context (R87, R93). -/
def State.passOnTo (s : State) : List Waiter → State
  | [] => s
  | w :: ws =>
    match s.freeContext with
    | none => s
    | some k =>
      let s := { s with waitList := ws }
      if s.failedLocal w.slot then ((s.latch w.slot true).quarantine w.slot .outletFailed).passOnTo ws
      else if s.hasPeers w.slot && !s.linkUp then ((s.latch w.slot true).strand w.slot).passOnTo ws
      else s.openingStart k w.slot w.cause

/-- A freed context is passed on (R93). -/
def State.passOn (s : State) : State := s.passOnTo s.waitList

/-- The context of the load is freed and passed on (R93). -/
def State.freeCycle (s : State) (i : Nat) : State := (s.dropContext i).passOn

/-- A load enters CYCLING: it takes the lowest-numbered free context, or joins the end of the wait list
(R92, R93). -/
def State.enterCycling (s : State) (i : Nat) (cause : Cause) : State :=
  let s := s.moveTo i .cycling
  match s.freeContext with
  | some k => s.openingStart k i cause
  | none => { s with waitList := s.waitList ++ [{ slot := i, cause := cause }] }

/-! ### The end of a cycle -/

/-- The outcome that a pending outcome leads to (R106). -/
def outcomeOf : Option PendingOutcome → CycleOutcome
  | none => .done
  | some .cancelled => .cancelled
  | some (.failed r) => .failed r

/-- The notice of an outcome (R106). -/
def outcomeNotice : CycleOutcome → Option Notice
  | .done => some .cycleDone
  | .cancelled => some .cycleDone
  | .failed _ => some .cycleFailed
  | .abandoned _ => none

/-- The outcome is written into the record, and its notice is set (R106). -/
def State.writeOutcome (s : State) (i : Nat) (out : CycleOutcome) (cause : Cause) : State :=
  let s := s.modLoad i fun l => { l with lastOutcome := some { outcome := out, cause := cause } }
  match outcomeNotice out with
  | some k => s.notice i k
  | none => s

/-- The end of CLOSING is judged: with everything settled the outcome is written, the context freed and
passed on, and the load goes to ON (R105). -/
def State.judgeClosing (s : State) (i : Nat) : State :=
  if s.cycleIn i .closing && s.phaseSettled i then
    match s.cycleOf i with
    | some c => ((s.writeOutcome i (outcomeOf c.pending) c.cause).freeCycle i).enterOn i .boot true
    | none => s
  else s

/-! ### Line loss -/

/-- Whether a local outlet is IN_SERVICE, commanded OPEN and on a lost phase (R109). -/
def State.openOnLost (s : State) (n : Nat) : Bool :=
  let o := s.outlet n
  !o.isFailed && !o.isClosed && s.phaseLost (s.phaseOf n)

/-- The line-lost marker is given to the outlets (R109, R177). -/
def State.markLineLost (s : State) (ns : List Nat) : State :=
  ns.foldl (fun s n => s.modOutlet n fun o => { o with lineLost := true }) s

/-- The placing of a load whose cycle line loss has abandoned (R110). A staged priority class that latches at the entry
into ON is the class of the entries made in the step: the model's choice (log 52). -/
def State.placeAbandoned (s : State) (i : Nat) : State :=
  let ns := s.localsOf i
  if !s.hasPeers i && !s.anyOutlet ns Outlet.isClosed then s.goDark i
  else
    (s.enterOn i .boot true).insertLocals i .cycle
      (ns.filter fun n =>
        let o := s.outlet n
        !o.isFailed && !o.isClosed && s.phaseUp (s.phaseOf n) && !s.hasEntry n)

/-- A cycle is abandoned by line loss (R109, R110). Where another phase is lost besides the one that R109 item 1
speaks of, the open outlets on it are marked too: the model's choice (log 17). -/
def State.abandonLineLoss (s : State) (i : Nat) : State :=
  match s.cycleOf i with
  | some c =>
    let s := s.markLineLost ((s.localsOf i).filter s.openOnLost)
    let raises := s.linkUp && s.hasPeers i &&
      ((c.phase = .opening && c.peer != .none) || (c.phase = .dwell && c.peer = .answered))
    let s := if raises then s.sendRaise i .load else s
    ((s.writeOutcome i (.abandoned .lineLoss) c.cause).freeCycle i).placeAbandoned i
  | none => s

/-! ### CLOSING -/

/-- The partner's side at the beginning of CLOSING (R102). -/
def State.closingPeer (s : State) (i : Nat) : State :=
  match s.cycleOf i with
  | some c =>
    if c.peer = .none then s
    else if s.linkUp then
      let s := s.sendRaise i .cycle
      s.modCycle i fun c =>
        { c with order := s.orderNumber i, peer := .asked, deadline := some (s.now + s.raiseLimit) }
    else s.modCycle i fun c => { Context.failing c .peerLost with peer := .none }
  | none => s

/-- CLOSING begins (R102). -/
def State.closingStart (s : State) (i : Nat) : State :=
  let ns := s.localsOf i
  if ns.any fun n => !(s.outlet n).isFailed && s.phaseLost (s.phaseOf n) then s.abandonLineLoss i
  else
    let s := s.modCycle i fun c =>
      { c with phase := .closing, deadline := none, progress := ns.filter fun n => (s.outlet n).isFailed }
    let s := s.insertLocals i .cycle (ns.filter fun n => !(s.outlet n).isFailed)
    (s.closingPeer i).judgeClosing i

/-- A relay fault fails a cycle in OPENING or DWELL: it goes to CLOSING at once (R98, R101). -/
def State.cycleFault (s : State) (i : Nat) : State :=
  (s.modCycle i fun c => { Context.failing c .outletFault with deadline := none }).closingStart i

/-- A local outlet is settled in CLOSING (R103). -/
def State.settleClosing (s : State) (i n : Nat) : State :=
  (s.modCycle i fun c => Context.settling c n).judgeClosing i

/-- A cycle's order ends in failure in OPENING: the cycle goes to CLOSING at once (R97). -/
def State.dropFailed (s : State) (i : Nat) (r : CycleReason) : State :=
  (s.modCycle i fun c => { Context.failing c r with peer := .none, deadline := none }).closingStart i

/-- A cycle's RAISE ends in failure (R104). -/
def State.raiseFailedBy (s : State) (i : Nat) (r : CycleReason) : State :=
  (s.modCycle i fun c => { Context.failing c r with peer := .none, deadline := none }).judgeClosing i

/-- A cycle's RAISE is answered RAISED (R104). -/
def State.raiseAnswered (s : State) (i : Nat) : State :=
  (s.modCycle i fun c => { c with peer := .answered, deadline := none }).judgeClosing i

/-- A cycle's DROP is answered DROPPED (R97). -/
def State.dropAnswered (s : State) (i : Nat) : State :=
  (s.modCycle i fun c => { c with peer := .answered, deadline := none }).judgeOpening i

/-- CANCEL of a cycle in OPENING or DWELL (R108). -/
def State.cancelCycle (s : State) (i : Nat) : State :=
  (s.modCycle i fun c =>
    { c with deadline := none, pending := if c.pending.isSome then c.pending else some .cancelled }).closingStart i

/-- The load leaves the wait list; the entries behind it close up (R91). -/
def State.leaveWaiting (s : State) (i : Nat) : State :=
  { s with waitList := s.waitList.filter fun w => w.slot != i }

/-- The cause of the cycle of a load on the wait list. -/
def State.waitingCause (s : State) (i : Nat) : Cause :=
  match s.waitList.find? fun w => w.slot = i with
  | some w => w.cause
  | none => .hang

/-- POWER_OFF abandons a cycle in any phase (R107). -/
def State.abandonPowerOff (s : State) (i : Nat) : State :=
  match s.cycleOf i with
  | some c => (s.writeOutcome i (.abandoned .powerOff) c.cause).freeCycle i
  | none => (s.writeOutcome i (.abandoned .powerOff) (s.waitingCause i)).leaveWaiting i

/-! ### The confirmed-hang decision -/

/-- A confirmed hang leaves the load ON with its watch HUNG (R82, rows 1 and 3). -/
def Load.leftHung (l : Load) : Load := { l with watch := Watch.inHung, postCycleBoot := false }

/-- The confirmed-hang decision for a load in ON (R81, R82). -/
def State.confirmHang (s : State) (i : Nat) (cause : Cause) : State :=
  match s.load i with
  | some l =>
    let s := s.notice i .hang
    if l.pinned then s.modLoad i Load.leftHung
    else
      let count := min l.cyclePolicy.threshold (l.strikes + 1)
      let s := s.modLoad i fun l => { l with strikes := count, postCycleBoot := false }
      if count = l.cyclePolicy.threshold then s.quarantine i .strikes
      else if !l.cyclePolicy.auto then s.modLoad i Load.leftHung
      else if s.failedLocal i then s.quarantine i .outletFailed
      else if s.hasPeers i && !s.linkUp then s.strand i
      else s.enterCycling i cause
  | none => s

end Sys2Proof.Machine
end

