-- ==== Sys2Proof/Machine/Partner.lean ====
section
/-! DEFINITION. The partner role: lendings and drop holds (R189), pending answers (R194), freeing and
releasing outlets (R10). -/

namespace Sys2Proof.Machine

/-- The outlets LENT to a home tag, ascending (R189). -/
def State.lending (s : State) (tag : Tag) : List Nat := outletNumbers.filter fun n => (s.outlet n).lentTo tag
/-- The outlets of a lending whose releasing flag is clear, ascending. -/
def State.lendingHeld (s : State) (tag : Tag) : List Nat :=
  (s.lending tag).filter fun n => !(s.outlet n).releasing
/-- The home tag of a LENT outlet. -/
def State.homeTag (s : State) (n : Nat) : Option Tag :=
  match (s.outlet n).owner with
  | .lent t _ _ => some t
  | _ => none

/-! ### Pending answers -/

/-- The pending answer of a home tag (R189). -/
def State.answerOf (s : State) (tag : Tag) : Option PendingAnswer := s.link.answers.find? fun a => a.tag = tag
/-- The pending answer of a home tag is discarded unsent. -/
def State.dropAnswer (s : State) (tag : Tag) : State :=
  { s with link := { s.link with answers := s.link.answers.filter fun a => a.tag != tag } }
/-- A pending answer replaces the one its home tag had. -/
def State.putAnswer (s : State) (a : PendingAnswer) : State :=
  let s := s.dropAnswer a.tag
  { s with link := { s.link with answers := s.link.answers ++ [a] } }
/-- A frame is sent in place of, or as, the pending answer of a home tag (R194). -/
def State.sendAnswer (s : State) (tag : Tag) (f : LinkFrame) : State := (s.dropAnswer tag).transmit f

/-- The frame a pending answer sends when its awaited set settles. -/
def answerFrameOf (a : PendingAnswer) : LinkFrame :=
  match a.kind with
  | .dropped => .dropped a.tag a.order
  | .raised => .raised a.tag a.order
  | .unbound => .unbound a.tag a.order

/-- An outlet leaves the awaited set of its home tag's pending answer, which is sent in the step in which
that set becomes empty (R194). -/
def State.settleAnswer (s : State) (a : PendingAnswer) (n : Nat) : State :=
  let left := a.awaited.filter fun k => k != n
  if left.isEmpty then s.sendAnswer a.tag (answerFrameOf a)
  else s.putAnswer { a with awaited := left, reopen := a.reopen.filter fun k => k != n }

/-- The pending answer of a home tag, if it awaits the outlet. -/
def State.awaiting (s : State) (tag : Tag) (n : Nat) : Option PendingAnswer :=
  match s.answerOf tag with
  | some a => if a.awaited.contains n then some a else none
  | none => none

/-- The closing of an outlet that a pending RAISED awaits is not made: RAISE_FAILED carrying the outlet is
sent in its place (R194). -/
def State.raiseLost (s : State) (tag : Tag) (n : Nat) : State :=
  match s.awaiting tag n with
  | some a => if a.kind = .raised then s.sendAnswer tag (.raiseFailed tag a.order n) else s
  | none => s

/-- `raiseLost` for the home tag of a LENT outlet whose queue entry a shed, a line-loss release, a failure
or a release has withdrawn (R194). Folded over several outlets, the first one is carried (log 38). -/
def State.lentEntryLost (s : State) (n : Nat) : State :=
  match s.homeTag n with
  | some tag => s.raiseLost tag n
  | none => s

/-- What the freeing of an outlet that was LENT to the home tag does to the pending answer (R194). -/
def State.answerFreed (s : State) (tag : Tag) (n : Nat) : State :=
  match s.awaiting tag n with
  | none => s
  | some a =>
    match a.kind with
    | .unbound => s.settleAnswer a n
    | .dropped =>
      if (s.lendingHeld tag).isEmpty then s.sendAnswer tag (.dropRefused tag a.order) else s.settleAnswer a n
    | .raised =>
      if (s.lendingHeld tag).isEmpty then s.sendAnswer tag (.raiseFailed tag a.order 0) else s.settleAnswer a n

/-! ### Releases -/

/-- To free an outlet (R10): FREE, reservation 0, releasing flag, both markers and the drop hold cleared. A
pending answer that awaits it is judged (R194). -/
def State.freeOutlet (s : State) (n : Nat) : State :=
  let home := s.homeTag n
  let s := (s.leaveShed n).modOutlet n fun o =>
    { o with owner := .free, reservation := 0, releasing := false, shed := false, lineLost := false,
             dropHold := none }
  match home with
  | some tag => s.answerFreed tag n
  | none => s

/-- One outlet of a release: freed at once where it is commanded OPEN and idle, else releasing and asked to
open (R10). -/
def State.releaseOutlet (s : State) (n : Nat) : State :=
  let o := s.outlet n
  if o.isFree then s
  else if o.settledOpen then s.freeOutlet n
  else (s.setOutlet n { o with releasing := true }).openRequest n

/-- A release of outlets that have one owner (R10): first every entry is withdrawn, then each outlet is
handled by its position. Where several awaited entries of one home tag are withdrawn, RAISE_FAILED carries the
first in the order of the list: the model's choice (log 38). -/
def State.releaseOutlets (s : State) (ns : List Nat) : State :=
  let queued := ns.filter s.hasEntry
  let s := s.withdrawAll ns
  let s := queued.foldl State.lentEntryLost s
  ns.foldl State.releaseOutlet s

/-- The lent owner is taken off every shed list and the shed markers of its outlets are cleared (R191 to
R193). -/
def State.unshedLent (s : State) (tag : Tag) : State :=
  (s.dropVictim (.home tag)).clearShed (s.lending tag)

/-- The drop holds of the outlets are replaced. -/
def State.setHolds (s : State) (ns : List Nat) (h : Option DropHold) : State :=
  ns.foldl (fun s n => s.modOutlet n fun o => { o with dropHold := h }) s

end Sys2Proof.Machine
end

