-- ==== Sys2Proof/Machine/Owners.lean ====
section
/-! DEFINITION. Relay faults (R147, R148) and what the end of a switching operation means to the outlet's
owner (R141, R143): a load (R54, R58, R96 to R103), a lending (R194) or a release (R10). -/

namespace Sys2Proof.Machine

/-! ### Charging a fault -/

/-- The owner tag a fault is recorded with: the load tag, the home tag, or 0 for a FREE outlet (R148). An outlet
still releasing after its record was removed takes the tag of the slot's present record, or 0 where the slot is
empty: the model's choice (log 41). An outlet claimed while the open asked of it as FREE at its adoption (R19) is in
flight takes the claimant's tag: the model's reading (log 50). -/
def State.ownerTag (s : State) (n : Nat) : Tag :=
  match (s.outlet n).owner with
  | .free => 0
  | .bound i =>
    match s.load i with
    | some l => l.tag
    | none => 0
  | .lent t _ _ => t

/-- The first-fault capture takes a fault: filled while empty, else MORE is set (R148). -/
def State.captureFault (s : State) (n : Nat) (k : FaultKind) : State :=
  match s.capture with
  | none =>
    { s with capture := some { outlet := n, kind := k, ownerTag := s.ownerTag n, current := (s.outlet n).current } }
  | some _ => { s with more := true }

/-- Whether a close taken for the outlet has not been driven (R134). -/
def Outlet.undriven (o : Outlet) : Bool :=
  o.switching = .closing &&
    match o.drive with
    | some d => d.issued.isNone
    | none => true

/-- The branch's gate is told that the close of an outlet has ended (R123). -/
def State.closeEnded (s : State) (n : Nat) : State :=
  let b := branchOf n
  if (s.gate b).closing = some n then (s.modGate b fun g => { g with closing := none }).gateDue b else s

/-- Whether a fault charged now would leave the outlet newly FAILED (R147, step 2). -/
def State.faultFails (s : State) (n : Nat) : Bool :=
  let o := s.outlet n
  !o.isFailed && s.settings.faultThreshold ≤ min 15 (o.faults + 1)

/-- Step 2 of a fault that leaves the outlet FAILED: its entry is withdrawn, and a close not yet driven is
cancelled before its drive (R134, R147). The pending-open flag is judged after the owner is told. -/
def State.failOutlet (s : State) (n : Nat) : State :=
  let s := (s.modOutlet n fun o => { o with service := .failed }).withdraw n
  let o := s.outlet n
  if o.undriven then (s.setOutlet n { Outlet.ended o with commanded := .opened }).closeEnded n else s

/-- A fault is charged to an outlet (R147). The owner's part follows with `told`. -/
def State.chargeFault (s : State) (n : Nat) (k : FaultKind) : State :=
  let fails := s.faultFails n
  let s := s.modOutlet n fun o => { o with faults := min 15 (o.faults + 1) }
  let s := if fails then s.failOutlet n else s
  let s := (s.captureFault n k).raiseFlag .outletFault
  match (s.outlet n).owner with
  | .bound i => s.notice i .outletFault
  | _ => s

/-! ### Telling the owner -/

/-- How an operation ended, as its owner is told (R143), with a DRIFT found between operations (R145). -/
inductive Ended where
  | closeConfirmed | noClose | openConfirmed | welded | lineLoss | cancelled | drift
deriving DecidableEq, Repr

/-- What the owner is told, to a cycle in OPENING (R96, R98). Line loss abandons it in the release. A WELDED on
an open that was in flight when the cycle began fails it too, as one the cycle asked for: the model's choice
(log 36). -/
def State.toldOpening (s : State) (i n : Nat) : Ended → State
  | .openConfirmed => (s.modCycle i fun c => Context.settling c n).judgeOpening i
  | .noClose => s.cycleFault i
  | .welded => s.cycleFault i
  | .drift =>
    match s.cycleOf i with
    | some c => if c.progress.contains n then s.cycleFault i else s
    | none => s
  | _ => s

/-- What the owner is told, to a cycle in CLOSING (R103). -/
def State.toldClosing (s : State) (i n : Nat) (e : Ended) : State :=
  let fault := fun (s : State) => s.modCycle i fun c => Context.failing c .outletFault
  match e with
  | .closeConfirmed => s.settleClosing i n
  | .noClose => (fault s).settleClosing i n
  | .cancelled => (fault s).settleClosing i n
  | .welded => if (s.outlet n).isFailed then (fault s).settleClosing i n else fault s
  | .drift => if (s.outlet n).isFailed then (fault s).settleClosing i n else fault s
  | _ => s

/-- What the owner is told, to a cycle that holds a context. A DRIFT fails it in DWELL (R101). -/
def State.toldCycle (s : State) (i n : Nat) (e : Ended) : State :=
  if s.cycleIn i .opening then s.toldOpening i n e
  else if s.cycleIn i .dwell then (if e = .drift then s.cycleFault i else s)
  else if s.cycleIn i .closing then s.toldClosing i n e
  else s

/-- What the owner is told, to the Load Table Unit for a BOUND outlet. The completion of a start that a
line-loss release touched is judged in the release (R178). -/
def State.toldLoad (s : State) (i n : Nat) (e : Ended) : State :=
  if s.loadIn i .starting then (if e = .lineLoss then s else s.judgeStart i)
  else if s.loadIn i .stopping then s.judgeStop i
  else if s.loadIn i .cycling then s.toldCycle i n e
  else s

/-- What the owner is told, to the Partner Link Controller for a LENT outlet: its pending answer is judged
(R194). -/
def State.toldLent (s : State) (tag : Tag) (n : Nat) (e : Ended) : State :=
  match s.awaiting tag n with
  | none => s
  | some a =>
    match a.kind, e with
    | .dropped, .openConfirmed => s.settleAnswer a n
    | .dropped, .lineLoss => s.settleAnswer a n
    | .dropped, .welded => s.dropAnswer tag
    | .raised, .closeConfirmed => if a.reopen.contains n then s else s.settleAnswer a n
    | .raised, .noClose => s.raiseLost tag n
    | .raised, .lineLoss => s.raiseLost tag n
    | .raised, .cancelled => s.raiseLost tag n
    | _, _ => s

/-- The outlet's owner is told how its operation ended (R143, step 4). An outlet whose releasing flag is
set is freed when its open ends (R10). -/
def State.told (s : State) (n : Nat) (e : Ended) : State :=
  let o := s.outlet n
  if o.releasing then
    match e with
    | .openConfirmed => s.freeOutlet n
    | .welded => s.freeOutlet n
    | .lineLoss => s.freeOutlet n
    | _ => s
  else
    match o.owner with
    | .bound i => s.toldLoad i n e
    | .lent t _ _ => s.toldLent t n e
    | .free => s

/-! ### Pending opens -/

/-- A pending open taken before a RAISE that awaits the outlet has started: the outlet is inserted again and
stays awaited (R194). -/
def State.reinsertRaised (s : State) (n : Nat) : State :=
  match s.homeTag n with
  | none => s
  | some tag =>
    match s.awaiting tag n with
    | none => s
    | some a =>
      if a.kind = .raised && a.reopen.contains n then
        (s.putAnswer { a with reopen := a.reopen.filter fun k => k != n }).insertLent .peerRaise n
      else s

/-- The pending open after a confirmed close: an open operation starts at once (R141). -/
def State.pendingAfterClose (s : State) (n : Nat) : State :=
  if (s.outlet n).pendingOpen then (s.startOpen n).reinsertRaised n else s

/-- The pending open after a close that did not happen: it ends at once as a confirmed open (R141). -/
def State.pendingAfterNone (s : State) (n : Nat) : State :=
  let o := s.outlet n
  if o.pendingOpen then (s.setOutlet n { o with pendingOpen := false }).told n .openConfirmed else s

/-- A fault charged to an outlet with all that follows at its owner: the owner is told of the fault, and of
the entry withdrawn or the close cancelled where the outlet became FAILED; a pending open is then judged
(R141, R143, R145, R147). -/
def State.faultTold (s : State) (n : Nat) (k : FaultKind) (e : Ended) : State :=
  let o := s.outlet n
  let cancels := s.faultFails n && o.undriven
  let loses := s.faultFails n && (s.hasEntry n || o.undriven)
  let s := (s.chargeFault n k).told n e
  let s := if loses then s.told n .cancelled else s
  if cancels then s.pendingAfterNone n else s

end Sys2Proof.Machine
end

