-- ==== Sys2Proof/Machine/Gate.lean ====
section
/-! DEFINITION. The inrush gate (R118 to R123), a branch's leaving of HOLD and RESTORING (R174), and how
every step ends: with the due gates and the attention line judged (log 12). -/

namespace Sys2Proof.Machine

/-! ### The five conditions -/

/-- Whether the inrush spacing has elapsed since the branch's last close drive (R119). -/
def State.spaced (s : State) (b : Nat) : Bool :=
  match (s.gate b).lastDrive with
  | some d => d + s.spacing ≤ s.now
  | none => true

/-- Whether an entry's owner is a pinned local load at the moment of the test (R119). -/
def State.pinnedOwner (s : State) (e : Entry) : Bool :=
  match e.owner with
  | .bound i =>
    match s.load i with
    | some l => l.pinned
    | none => false
  | _ => false

/-- Whether the branch's guard admits the entry (R119). -/
def State.guardAdmits (s : State) (b : Nat) (e : Entry) : Bool :=
  match (s.guard b).state with
  | .normal => true
  | .restoring => true
  | .shedding => s.pinnedOwner e
  | .hold => s.pinnedOwner e

/-- The headroom test, in cA (R120). -/
def State.headroom (s : State) (b : Nat) (e : Entry) : Bool :=
  s.branchCurrent b + 10 * (s.outlet e.outlet).reservation ≤ 10 * s.threshold b

/-- The first condition in table order that the head fails, NONE where all hold (R119). -/
def State.gateFails (s : State) (b : Nat) (e : Entry) : HoldReason :=
  if (s.outlet e.outlet).busy then .outletBusy
  else if (s.gate b).closing.isSome then .closeInFlight
  else if !s.spaced b then .spacing
  else if !s.guardAdmits b e then .guard
  else if !s.headroom b e then .headroom
  else .none

/-- The hold reason of a branch: NONE while it has no head (R119). -/
def State.holdReason (s : State) (b : Nat) : HoldReason :=
  match s.head b with
  | some e => s.gateFails b e
  | none => .none

/-! ### Grants -/

/-- The Switching Unit answers a close request: taken where the outlet admits it, else ended as a close
cancelled before its drive, the gate and the owner told (R134). -/
def State.closeRequest (s : State) (n : Nat) : State :=
  if (s.outlet n).takesClose then s.startClose n else (s.closeEnded n).told n .cancelled

/-- A grant (R122): the entry leaves the queue, its outlet becomes the close in flight, and a close request
is sent. -/
def State.grant (s : State) (b : Nat) (e : Entry) : State :=
  let s := { s with queue := s.queue.filter fun x => x.outlet != e.outlet }
  (s.modGate b fun g => { g with closing := some e.outlet }).closeRequest e.outlet

/-- The hold reason is recorded. After a grant the new head is judged by R119's table like any head: one whose
outlet is still switching shows OUTLET_BUSY, not the CLOSE_IN_FLIGHT of R122, by the model's choice (log 37). -/
def State.setReason (s : State) (b : Nat) : State :=
  let r := s.holdReason b
  s.modGate b fun g => { g with reason := r }

/-- The gate of a branch is judged: its head is granted when every condition holds, and the hold reason is
set (R119). -/
def State.judgeGate (s : State) (b : Nat) : State :=
  match s.head b with
  | some e => if s.gateFails b e = .none then (s.grant b e).setReason b else s.setReason b
  | none => s.setReason b

/-! ### HOLD and RESTORING (R174) -/

/-- The guard state of a branch is changed, which judges its gate (R165). -/
def State.setGuardState (s : State) (b : Nat) (g : GuardState) : State :=
  if (s.guard b).state = g then s else (s.modGuard b fun r => { r with state := g }).gateDue b

/-- A branch in RESTORING goes to NORMAL when its list is empty and no RESTORE entry is queued on it. -/
def State.judgeReturn (s : State) (b : Nat) : State :=
  let g := s.guard b
  if g.state = .restoring && g.list.isEmpty && !s.restoreQueued b then s.setGuardState b .normal else s

/-- A branch in HOLD whose last list entry has been removed goes to RESTORING while a RESTORE entry of the
branch is queued, and to NORMAL otherwise. -/
def State.judgeHold (s : State) (b : Nat) : State :=
  let g := s.guard b
  if s.work.lists.contains b && g.state = .hold && g.list.isEmpty then
    s.setGuardState b (if s.restoreQueued b then .restoring else .normal)
  else s

/-! ### The end of a step -/

/-- The gates and branch returns still to be judged are judged, branches ascending (log 12): leaving HOLD
and RESTORING first, then the due gates, then the return of branches whose last RESTORE entry a gate has
granted. -/
def State.flush (s : State) : State :=
  let s := branchNumbers.foldl State.judgeHold s
  let s := branchNumbers.foldl State.judgeReturn s
  let s := branchNumbers.foldl (fun s b => if s.work.gates.contains b && s.branchInUse b then s.judgeGate b else s) s
  let s := branchNumbers.foldl State.judgeReturn s
  { s with work := Work.none }

/-- How every step ends: what is due is judged, then the attention line (R121, R174, R207; log 12). -/
def State.finish (s : State) : State := s.flush.judgeLine

/-- How every command ends: what is due in the step is judged, and the next state is answered. -/
def State.done (s : State) : Host.Outcome State Fault Refusal := .next s.finish

end Sys2Proof.Machine
end

