-- ==== Sys2Proof/Machine/LineLoss.lean ====
section
/-! DEFINITION. The line-loss release and the return (R142, R177 to R179, R127), adoption (R19) and the
cold-start decision (R20). -/

namespace Sys2Proof.Machine

/-! ### The release -/

/-- The Switching Unit's part of a release for one outlet that is commanded CLOSED or has an operation in
flight: it is driven open at once, and an operation that ended is reported (R142). -/
def State.driveLost (s : State) (n : Nat) : State :=
  let o := s.outlet n
  let t := s.setOutlet n
    { Outlet.ended o with commanded := .opened, pendingOpen := false, recheck := none, driftHeld := false }
  if o.busy then (t.closeEnded n).told n .lineLoss else t

/-- Whether a release drives the outlet open or ends an operation on it. -/
def Outlet.releasable (o : Outlet) : Bool := o.isClosed || o.busy

/-- Whether a release gives the outlet the line-lost marker for its position (R177, step 3). -/
def Outlet.marksLost (o : Outlet) : Bool := o.owned && !o.releasing && o.isClosed && !o.pendingOpen

/-- The slots, ascending, that have a local outlet among those that a release touched. -/
def State.slotsTouching (s : State) (ns : List Nat) : List Nat :=
  s.occupied.filter fun i => (s.localsOf i).any fun n => ns.contains n

/-- A branch of a lost phase goes to NORMAL, its shed list kept (R178). -/
def State.guardLost (s : State) (b : Nat) : State :=
  (s.setGuardState b .normal).modGuard b fun g => { g with overCount := 0, settle := none, restoreStart := none }

/-- The placing of a load that the release touched: an ON load without peers and with nothing closed goes to
DARK, and a start's completion is judged (R178). -/
def State.placeLost (s : State) (i : Nat) : State :=
  let ns := s.localsOf i
  if s.loadIn i .on && !s.hasPeers i && !s.anyOutlet ns Outlet.isClosed && s.anyOutlet ns (·.lineLost) then
    s.goDark i
  else s.judgeStart i

/-- The line-loss release of a phase (R177, R178). Its line state is already LOST. Outlets are taken in ascending
number, in the opens, the withdrawals and what their owners are told: the model's choice (log 46). -/
def State.lineLossRelease (s : State) (p : Phase) : State :=
  let ns := s.outletsOn p
  let driven := ns.filter fun n => (s.outlet n).releasable
  let queued := ns.filter s.hasEntry
  let marked := ns.filter fun n =>
    let o := s.outlet n
    o.marksLost || (s.hasEntry n && o.owned && !o.releasing)
  let touched := s.slotsTouching (driven ++ queued)
  let cycles := touched.filter fun i => s.cycleIn i .opening || s.cycleIn i .closing
  let s := driven.foldl State.driveLost s
  let s := queued.foldl State.lentEntryLost (s.withdrawAll queued)
  let s := s.markLineLost marked
  let s := cycles.foldl State.abandonLineLoss s
  let s := touched.foldl State.placeLost s
  (s.branchesOn p).foldl State.guardLost s

/-- PHASE_LOSS is declared for a phase (R159): LOST, LINE raised, its outlets sensed UNKNOWN, and the
line-loss release. Its good run is kept from then on. -/
def State.phaseLoss (s : State) (p : Phase) : State :=
  let s := (s.modLine p fun l => { l with state := .lost }).raiseFlag .line
  (s.senseAll (s.outletsOn p)).lineLossRelease p

/-! ### The return -/

/-- Whether a load's line-lost outlet is queued again at the return of its phase (R127, row 3). -/
def State.returnsOutlets (s : State) (i : Nat) : Bool :=
  match s.load i with
  | some l =>
    l.wantedOn &&
      (l.state = .on || l.state = .starting || l.state = .stranded || l.state = .quarantined || s.waiting i)
  | none => false

/-- Whether an outlet that carries the line-lost marker only loses it at the return (R127, row 1). -/
def State.returnSkips (s : State) (n : Nat) : Bool :=
  (s.outlet n).isFailed || (s.outlet n).releasing || s.hasEntry n

/-- One local outlet at the return of its phase (R127). A DARK load is restarted by R127's row even where its wanted-on
is clear, for which R65 names no restore: the model's reading (log 45). -/
def State.returnLocal (s : State) (i n : Nat) : State :=
  if !(s.outlet n).lineLost then s
  else if s.returnSkips n then s.clearLineLost [n]
  else if s.loadIn i .dark then s.start i .restore
  else if s.returnsOutlets i then (s.clearLineLost [n]).insertLocals i .restore [n]
  else s.clearLineLost [n]

/-- One LENT outlet at the return of its phase (R127). -/
def State.returnLent (s : State) (n : Nat) : State :=
  if !(s.outlet n).lineLost then s
  else if s.returnSkips n then s.clearLineLost [n]
  else if (s.outlet n).dropHold.isNone then (s.clearLineLost [n]).insertLent .restore n
  else s.clearLineLost [n]

/-- The return of a phase: its line-lost outlets, local loads in ascending slot order and then LENT outlets
(R127, R179). -/
def State.lineReturn (s : State) (p : Phase) : State :=
  let s := s.occupied.foldl
    (fun s i => ((s.localsOf i).filter fun n => s.phaseOf n = p).foldl (fun s n => s.returnLocal i n) s) s
  ((s.outletsOn p).filter fun n => (s.homeTag n).isSome).foldl State.returnLent s

/-- A phase becomes UP: the expected crossing is its last crossing plus the reference half-period, the
missed count 0, the good run no longer kept (R158, R159). -/
def Line.goUp (l : Line) : Line :=
  { l with state := .up, expected := l.lastCross.getD 0 + l.half, prevExpected := none, missed := 0,
           goodRun := none }

/-- PHASE_RETURN is declared for a phase (R160). -/
def State.phaseReturn (s : State) (p : Phase) : State :=
  let s := (s.modLine p Line.goUp).raiseFlag .line
  (s.senseAll (s.outletsOn p)).lineReturn p

/-! ### Adoption and the cold-start decision -/

/-- The adoption of an outlet whose phase is judged up (R19). -/
def State.adoptUp (s : State) (n : Nat) : State :=
  let o := s.outlet n
  if o.adopted then s
  else
    let s := s.setOutlet n { o with adopted := true }
    if o.sensed = .live then
      if o.isFree then s.openRequest n else s.modOutlet n fun o => { o with commanded := .closed }
    else s

/-- The adoption of an outlet whose phase is found lost: driven open at once, and given the line-lost marker
where it is BOUND or LENT (R19). -/
def State.adoptLost (s : State) (n : Nat) : State :=
  let o := s.outlet n
  if o.adopted then s
  else s.setOutlet n
    { Outlet.ended o with adopted := true, commanded := .opened, pendingOpen := false, recheck := none,
                          driftHeld := false, lineLost := o.owned }

/-- A load placed in STARTING by the cold-start decision: wanted on, each open outlet without a line-lost
marker queued STARTUP, and the completion judged (R20). -/
def State.startUp (s : State) (i : Nat) : State :=
  let s := (s.moveTo i .starting).modLoad i fun l => { l with wantedOn := true, startRestored := false }
  (s.insertLocals i .startup
    ((s.localsOf i).filter fun n => !(s.outlet n).isClosed && !(s.outlet n).lineLost)).judgeStart i

/-- The cold-start decision for a load whose local outlets are all adopted (R20). An outlet adopted CLOSED and
opened by line loss before the decision counts as not closed: the model's choice (log 32). -/
def State.decideLoad (s : State) (i : Nat) : State :=
  let s := s.modLoad i fun l => { l with awaiting := false }
  let ns := s.localsOf i
  match s.load i with
  | some l =>
    if ns.all fun n => (s.outlet n).isClosed then
      (s.modLoad i fun l => { l with wantedOn := true }).enterOn i .boot false
    else if s.anyOutlet ns Outlet.isClosed then s.startUp i
    else if l.pop = .on || (l.pop = .last && l.wantedOn) then
      if (ns.all fun n => (s.outlet n).lineLost) && l.peers.isEmpty then
        (s.modLoad i fun l => { l with wantedOn := true }).goDark i
      else s.startUp i
    else ((s.moveTo i .unpowered).modLoad i fun l => { l with wantedOn := false }).clearLineLost ns
  | none => s

/-- Every load that awaits adoption and whose last outlets have been adopted is decided, in ascending slot
order (R20). -/
def State.decideAll (s : State) : State :=
  s.occupied.foldl
    (fun s i =>
      match s.load i with
      | some l => if l.awaiting && (l.outlets.all fun n => (s.outlet n).adopted) then s.decideLoad i else s
      | none => s) s

/-- The first judgement of a phase finds it up (R158, R19). -/
def State.firstUp (s : State) (p : Phase) : State :=
  let s := s.modLine p Line.goUp
  let s := s.senseAll (s.outletsOn p)
  ((s.outletsOn p).foldl State.adoptUp s).decideAll

/-- The first judgement of a phase declares it lost (R158, R19). -/
def State.firstLost (s : State) (p : Phase) : State :=
  let s := s.phaseLoss p
  ((s.outletsOn p).foldl State.adoptLost s).decideAll

end Sys2Proof.Machine
end

