-- ==== Sys2Proof/Machine/Guard.lean ====
section
/-! DEFINITION. The Branch Guard at a window end: tripping, shed steps, settling, restoring (R166 to R173),
and the external shed (R175, R176). -/

namespace Sys2Proof.Machine

/-! ### Shedding a victim (R168 to R170) -/

/-- The outlets of a list that a shed opens or whose entry it withdraws. -/
def State.shedTargets (s : State) (ns : List Nat) : List Nat :=
  ns.filter fun n => (s.outlet n).isClosed || s.hasEntry n

/-- The common part of every shed: entries withdrawn, closed outlets asked to open, and the outlets so
opened or withdrawn marked and recorded. -/
def State.shedOutlets (s : State) (place : ShedPlace) (v : Victim) (k : ShedKind) (ns : List Nat) : State :=
  let targets := s.shedTargets ns
  ((s.withdrawAll ns).openClosed ns).markShed place v k targets

/-- A single-feed load is shed whole (R168). -/
def State.shedLoad (s : State) (i : Nat) (place : ShedPlace) : State :=
  ((s.shedOutlets place (.slot i) .load (s.localsOf i)).moveTo i .shed).notice i .shed

/-- A dual-corded load loses the given local outlets and stays ON or STARTING (R169, R175). A start whose
last entry this withdraws is judged for completion (R54). -/
def State.shedCord (s : State) (i : Nat) (place : ShedPlace) (ns : List Nat) : State :=
  ((s.shedOutlets place (.slot i) .cord ns).notice i .cordShed).judgeStart i

/-- A lent owner is shed (R170). A pending RAISED that awaited a withdrawn entry fails (R194). -/
def State.shedLent (s : State) (tag : Tag) (place : ShedPlace) : State :=
  let ns := s.lending tag
  let queued := ns.filter s.hasEntry
  queued.foldl State.lentEntryLost (s.shedOutlets place (.home tag) .lent ns)

/-! ### Choosing a victim (R167) -/

/-- A candidate of a shed step: a lent owner with its class and its highest closed LENT outlet on the
branch, or a local load with its class, whether it is STARTING, the rank of its power time and its slot. -/
inductive Candidate where
  | lent (tag : Tag) (prio top : Nat)
  | load (slot prio : Nat) (starting : Bool) (power : Nat)
deriving DecidableEq, Repr

/-- The priority class of a candidate. -/
def Candidate.prio : Candidate → Nat
  | .lent _ p _ => p
  | .load _ p _ _ => p

/-- Whether the first candidate is taken before the second (R167, ranks 1 to 5). -/
def Candidate.before (x y : Candidate) : Bool :=
  if x.prio != y.prio then x.prio < y.prio
  else match x, y with
    | .lent _ _ a, .lent _ _ b => b < a
    | .lent _ _ _, .load _ _ _ _ => true
    | .load _ _ _ _, .lent _ _ _ => false
    | .load i _ si pi, .load j _ sj pj =>
      if si != sj then si
      else if pi != pj then pj < pi
      else j < i

/-- The candidate taken first. -/
def firstCandidate : List Candidate → Option Candidate
  | [] => none
  | c :: cs =>
    match firstCandidate cs with
    | none => some c
    | some d => if d.before c then some d else some c

/-- The rank of a power time: a later one is higher, and an absent one the lowest (R167, rank 4; log 16). -/
def powerRank : Option Nat → Nat
  | some p => p + 1
  | none => 0

/-- The local load in a slot as a candidate on a branch (R167): ON or STARTING, not pinned, with a local
outlet on the branch commanded CLOSED. -/
def State.loadCandidate (s : State) (b i : Nat) : Option Candidate :=
  match s.load i with
  | some l =>
    if (l.state = .on || l.state = .starting) && !l.pinned &&
        l.outlets.any fun n => branchOf n = b && (s.outlet n).isClosed then
      some (.load i l.prio (l.state = .starting) (powerRank l.powerTime))
    else none
  | none => none

/-- The lent owner of an outlet as a candidate on the outlet's branch (R167): commanded CLOSED, its
releasing flag clear. -/
def State.lentCandidate (s : State) (n : Nat) : Option Candidate :=
  let o := s.outlet n
  match o.owner with
  | .lent t _ p => if o.isClosed && !o.releasing then some (.lent t p n) else none
  | _ => none

/-- The candidates of a shed step on a branch. Each closed LENT outlet stands for its lent owner, so the
owner of the highest is taken first (rank 3). -/
def State.candidates (s : State) (b : Nat) : List Candidate :=
  slotNumbers.filterMap (s.loadCandidate b) ++
    (s.outletsInUse.filter fun n => branchOf n = b).filterMap s.lentCandidate

/-- A victim of a shed step on a branch is taken (R168 to R170). -/
def State.shedVictim (s : State) (b : Nat) : Candidate → State
  | .lent tag _ _ => s.shedLent tag (.branch b)
  | .load i _ _ _ =>
    if s.hasPeers i then s.shedCord i (.branch b) ((s.localsOf i).filter fun n => branchOf n = b)
    else s.shedLoad i (.branch b)

/-- A shed step on a branch: one victim is taken and the settle count becomes 0, or none is and the settle
count is absent (R167, R172). -/
def State.shedStep (s : State) (b : Nat) : State :=
  match firstCandidate (s.candidates b) with
  | some c => (s.shedVictim b c).modGuard b fun g => { g with settle := some 0 }
  | none => s.modGuard b fun g => { g with settle := none }

/-! ### Restoring (R173) -/

/-- One recorded outlet of a CORD or LENT entry is restored: it leaves the entry, its marker is cleared, and
it is inserted with cause RESTORE. A present drop hold does not keep a LENT outlet out of the queue here: the
model's choice (log 44). -/
def State.restoreOutlet (s : State) (v : Victim) (n : Nat) : State :=
  let s := s.leaveShed n
  match v with
  | .slot i => s.insertLocals i .restore [n]
  | .home _ => s.insertLent .restore n

/-- One entry of a shed list is taken by its kind and the restore mode (R173, R176). The outlets of a CORD or LENT
entry are taken in the order they were recorded: the model's choice (log 47). -/
def State.restoreEntry (s : State) (mode : RestoreMode) (e : ShedEntry) : State :=
  match e.kind, e.victim with
  | .load, .slot i => (match mode with | .auto => s.start i .restore | .manual => s)
  | .load, .home _ => s
  | .cord, v => e.outlets.foldl (fun s n => s.restoreOutlet v n) s
  | .lent, v => e.outlets.foldl (fun s n => s.restoreOutlet v n) s

/-- The sum of the reservations of the outlets in a branch's shed list that lie on the branch (R173). -/
def State.listedSum (s : State) (b : Nat) : Nat :=
  (((s.guard b).list.flatMap (·.outlets)).filter fun n => branchOf n = b).foldl
    (fun acc n => acc + (s.outlet n).reservation) 0

/-- The restore test of a branch, in cA (R173). -/
def State.restorePasses (s : State) (b : Nat) : Bool :=
  s.branchCurrent b + 10 * s.listedSum b ≤ 10 * s.ceiling b

/-- A branch restores: its entries are taken in list order and it goes to RESTORING (R173). -/
def State.restoreBranch (s : State) (b : Nat) : State :=
  let mode := s.restoreMode b
  let s := (s.guard b).list.foldl (fun s e => s.restoreEntry mode e) s
  (s.setGuardState b .restoring).modGuard b fun g => { g with restoreStart := none }

/-- Whether a branch makes the restore test at a window end (R173). -/
def Guard.tests (g : Guard) : Bool :=
  match g.state with
  | .hold => true
  | .normal => !g.list.isEmpty
  | .restoring => !g.list.isEmpty
  | .shedding => false

/-- The restore judgement of a branch at a window end (R173). -/
def State.judgeRestore (s : State) (b : Nat) : State :=
  if (s.guard b).tests then
    if s.restorePasses b then
      let start := (s.guard b).restoreStart.getD s.now
      if start + s.settings.restoreDelay * Config.sec ≤ s.now then s.restoreBranch b
      else s.modGuard b fun g => { g with restoreStart := some start }
    else s.modGuard b fun g => { g with restoreStart := none }
  else s

/-! ### Tripping and settling (R166, R172) -/

/-- Whether the branch current is above the trip threshold, in cA (R166). -/
def State.overThreshold (s : State) (b : Nat) : Bool := 10 * s.threshold b < s.branchCurrent b
/-- Whether the branch current is above the release level, in cA (R172). -/
def State.overRelease (s : State) (b : Nat) : Bool :=
  10 * (s.threshold b - s.settings.hysteresis) < s.branchCurrent b

/-- A branch trips (R166). -/
def State.trip (s : State) (b : Nat) : State :=
  let s := (s.setGuardState b .shedding).modGuard b fun g => { g with overCount := 0, restoreStart := none }
  (s.raiseFlag .branchGuard).shedStep b

/-- The settle judgement: a further shed step, or HOLD (R172). -/
def State.settle (s : State) (b : Nat) : State :=
  if s.overRelease b then s.shedStep b
  else (s.setGuardState b .hold).modGuard b fun g => { g with settle := none, restoreStart := none }

/-- The window end at a branch in SHEDDING (R172). -/
def State.settleCount (s : State) (b : Nat) : State :=
  match (s.guard b).settle with
  | none => s.settle b
  | some k => if 3 ≤ k + 1 then s.settle b else s.modGuard b fun g => { g with settle := some (k + 1) }

/-- The window end at a branch in NORMAL, HOLD or RESTORING: over-counting and the trip (R166), then the
restore judgement (R173). A branch on a phase that is not up is counted and not tripped; its count stands at
most at 5 (R165; log 11). -/
def State.overCount (s : State) (b : Nat) : State :=
  if s.overThreshold b then
    if 5 ≤ (s.guard b).overCount + 1 && s.phaseUp (phaseOfBranch s.branchCount b) then s.trip b
    else (s.modGuard b fun g => { g with overCount := min 5 (g.overCount + 1) }).judgeRestore b
  else (s.modGuard b fun g => { g with overCount := 0 }).judgeRestore b

/-- The window end at the guard of one branch. -/
def State.guardBranch (s : State) (b : Nat) : State :=
  match (s.guard b).state with
  | .shedding => s.settleCount b
  | _ => s.overCount b

/-! ### The external shed (R175, R176) -/

/-- Whether a local load is a candidate of an external shed of the class (R175). -/
def State.extLoad (s : State) (cls i : Nat) : Bool :=
  match s.load i with
  | some l =>
    l.prio ≤ cls && (l.state = .on || l.state = .starting) && !l.pinned &&
      l.outlets.any fun n => (s.outlet n).isClosed || s.hasEntry n
  | none => false

/-- A local load is taken by an external shed (R175). -/
def State.extTakeLoad (s : State) (cls i : Nat) : State :=
  if s.extLoad cls i then
    if s.hasPeers i then s.shedCord i .ext (s.localsOf i) else s.shedLoad i .ext
  else s

/-- Whether a LENT outlet makes its lent owner a candidate of an external shed of the class (R175). -/
def State.extLentOutlet (s : State) (cls n : Nat) : Bool :=
  match (s.outlet n).owner with
  | .lent _ _ p => p ≤ cls && ((s.outlet n).isClosed || s.hasEntry n)
  | _ => false

/-- A tag takes its place in an ascending list of tags, once. -/
def placeTag (t : Tag) : List Tag → List Tag
  | [] => [t]
  | u :: us => if t = u then u :: us else if t.toNat < u.toNat then t :: u :: us else u :: placeTag t us

/-- The lent owners that an external shed of the class takes, in ascending home tag. -/
def State.extTags (s : State) (cls : Nat) : List Tag :=
  ((outletNumbers.filter (s.extLentOutlet cls)).filterMap s.homeTag).foldl (fun l t => placeTag t l) []

/-- An external shed: every candidate at or below the class of the assertion, in ascending slot order and
then in ascending home tag (R175). -/
def State.extShed (s : State) : State :=
  match s.ext.cls with
  | some cls =>
    let tags := s.extTags cls
    tags.foldl (fun s t => s.shedLent t .ext) (slotNumbers.foldl (fun s i => s.extTakeLoad cls i) s)
  | none => s

/-- An assertion of the external shed input (R175); nothing while already ACTIVE. -/
def State.extAssert (s : State) : State :=
  if s.ext.active then s
  else
    let s := { s with ext := { s.ext with active := true, cls := some s.settings.extClass } }
    (s.raiseFlag .branchGuard).extShed

/-- A deassertion of the external shed input (R176); nothing while INACTIVE. -/
def State.extDeassert (s : State) : State :=
  if s.ext.active then
    let s := { s with ext := { s.ext with active := false } }
    s.ext.list.foldl (fun s e => s.restoreEntry s.settings.extRestore e) s
  else s

/-- The window end at the Branch Guard: the branches ascending, then the external shed while ACTIVE (log
10). -/
def State.guardWindow (s : State) : State :=
  let s := s.branchesInUse.foldl State.guardBranch s
  if s.ext.active then s.extShed else s

end Sys2Proof.Machine
end

