-- ==== Sys2Proof/Machine/Port.lean ====
section
/-! DEFINITION. The Command Port: taking a request and placing its answer (R200 to R204), and the commands
that reach the port only. -/

namespace Sys2Proof.Machine

/-! ### Requests -/

/-- What the owner of a request returns: its answer, or that the answer is held for the load in a slot
(R201). -/
inductive Reply where
  | answer (status : Status) (body : AnswerBody)
  | held (slot : Nat)
deriving DecidableEq, Repr

/-- An answer with an empty body. -/
def Reply.plain (status : Status) : Reply := .answer status .nothing

/-- An answer is placed in the answer buffer, and the port is ANSWER_READY (R202). -/
def State.place (s : State) (kind : Byte) (status : Status) (body : AnswerBody) : State :=
  { s with port := { s.port with state := .ready { kind := kind, status := status, body := body } } }

/-- The owner's reply to a request (R201, R202). -/
def State.reply (s : State) (k : ReqKind) : Reply → State
  | .answer status body => s.place k.code status body
  | .held i => { s with port := { s.port with state := .executing k i } }

/-- Whether the port is EXECUTING. -/
def State.executing (s : State) : Bool :=
  match s.port.state with
  | .executing _ _ => true
  | _ => false

/-- MISO carries 0x00 throughout a transaction (R200). -/
def State.quiet (s : State) : State := { s with port := { s.port with miso := .nothing } }

/-- A write transaction: ignored while PRST_N is low (R200), dropped with PORT raised while the port is
EXECUTING (R203), and handled by `f` otherwise. -/
def State.written (s : State) (f : State → State) : State :=
  if s.port.prstLow then s.quiet else if s.executing then s.quiet.raiseFlag .port else f s.quiet

/-- A good request frame (R201): taken and handed to its owner, which refuses a body that does not fit its kind.
DESIGN CHOICE (log 53): that refusal comes before every other check of the request, those of R28 among them, so that
such a body is never answered UNKNOWN_TAG or STALE. A field of wrong range in a body that fits is judged in its own
place by `own`. -/
def State.request {α : Type} (s : State) (k : ReqKind) (body : Body α) (own : State → α → State × Reply) : State :=
  s.written fun s =>
    match body with
    | .unfit => s.reply k (.plain .badRequest)
    | .fits a => let (s', r) := own s a; s'.reply k r

/-- A held request ends: its answer is placed only if the port is still executing that request (R202, log
23). -/
def State.endHeld (s : State) (k : ReqKind) (slot : Nat) (status : Status) (body : AnswerBody) : State :=
  if s.port.state = .executing k slot then s.place k.code status body else s

/-- A request that names a load by a tag operand: 0 is refused BAD_REQUEST, a tag that does not resolve
UNKNOWN_TAG, and `f` judges the resolved record (R28). A body that does not fit its kind does not come here: log 53. -/
def State.named (s : State) (tag : Tag) (f : Nat → Load → State × Reply) : State × Reply :=
  if tag = 0 then (s, .plain .badRequest)
  else match s.resolve tag with
    | none => (s, .plain .unknownTag)
    | some i =>
      match s.load i with
      | some l => f i l
      | none => (s, .plain .unknownTag)

/-- `named` with an expected revision, which must be the record's (R28). -/
def State.namedExpecting (s : State) (tag : Tag) (expected : Option Nat) (f : Nat → Load → State × Reply) :
    State × Reply :=
  s.named tag fun i l =>
    match expected with
    | some r => if r = l.revision then f i l else (s, .answer .stale (.revision l.revision))
    | none => f i l

/-- The state with an answer of empty body, as an accepted request gives it. -/
def State.ok (s : State) : State × Reply := (s, .plain .done)

/-! ### Commands of the port alone -/

/-- PORT_RESET: PRST_N goes low; the port goes to IDLE, its answer and executing request discarded (R204).
MISO carries 0x00 while PRST_N is low (R200). -/
def execPortReset (t : Nat) (s : State) : Host.Outcome State Fault Refusal :=
  let s := s.advance t
  State.done { s with port := { state := .idle, prstLow := true, miso := .nothing } }

/-- PORT_RESET_RELEASE: PRST_N returns high, and the port takes transactions again (R204). -/
def execPortResetRelease (t : Nat) (s : State) : Host.Outcome State Fault Refusal :=
  let s := s.advance t
  State.done { s with port := { s.port with prstLow := false } }

/-- A read transaction (R200, R202): the answer goes out while ANSWER_READY, and is taken when every byte of
it was clocked; otherwise NOT_READY goes out. -/
def State.readPort (s : State) (complete : Bool) : State :=
  if s.port.prstLow then s.quiet
  else match s.port.state with
    | .ready a =>
      { s with port := { s.port with state := if complete then .idle else .ready a, miso := .answer a } }
    | _ => { s with port := { s.port with miso := .notReady } }

/-- READ_TRANSACTION (R200). -/
def execReadTransaction (t : Nat) (complete : Bool) (s : State) : Host.Outcome State Fault Refusal :=
  ((s.advance t).readPort complete).done

/-- A transaction whose first byte is neither the request sync nor the read byte raises PORT (R200). -/
def State.ignoreTransaction (s : State) (first : Byte) : State :=
  if s.port.prstLow then s.quiet
  else if first = 0xC3 ∨ first = 0x5A then s
  else s.quiet.raiseFlag .port

/-- IGNORED_TRANSACTION (R200). -/
def execIgnoredTransaction (t : Nat) (first : Byte) (s : State) : Host.Outcome State Fault Refusal :=
  ((s.advance t).ignoreTransaction first).done

/-- A bad frame is answered BAD_FRAME, echoing the kind received, and PORT is raised (R201). Bytes that do not begin
with 0xC3 are no write frame (R200): they have no effect (log 3). -/
def State.frameFailed (s : State) (bytes : List Byte) : State :=
  if bytes.head? = some 0xC3 then
    s.written fun s =>
      if badRequestFrame bytes then (s.place (receivedKind bytes) .badFrame .nothing).raiseFlag .port else s
  else s

/-- BAD_FRAME (R201). -/
def execBadFrame (t : Nat) (bytes : List Byte) (s : State) : Host.Outcome State Fault Refusal :=
  ((s.advance t).frameFailed bytes).done

/-- OVERRUN: a write frame that ends while the port is EXECUTING is dropped, and PORT is raised (R203). -/
def execOverrun (t : Nat) (s : State) : Host.Outcome State Fault Refusal :=
  ((s.advance t).written id).done

/-- A frame whose kind is not one of the 23 request kinds is answered BAD_REQUEST (R201). -/
def State.unknownKind (s : State) (kind : Byte) : State :=
  s.written fun s => if 1 ≤ kind.toNat ∧ kind.toNat ≤ 23 then s else s.place kind .badRequest .nothing

/-- UNKNOWN_REQUEST_KIND (R201). -/
def execUnknownRequestKind (t : Nat) (kind : Byte) (s : State) : Host.Outcome State Fault Refusal :=
  ((s.advance t).unknownKind kind).done

end Sys2Proof.Machine
end

