-- ==== Sys2Proof/Machine/Relays.lean ====
section
/-! DEFINITION. The events of one relay: its drives (R135, R138), confirmations (R136, R138, R139), confirm
windows' ends, the sensed position (R133), the patrol and its rechecks (R144, R145). -/

namespace Sys2Proof.Machine

/-- The moment the drive of the operation in flight in the given direction was issued. -/
def Outlet.drivenAt (o : Outlet) (dir : Switching) : Option Nat :=
  if o.switching = dir then
    match o.drive with
    | some d => d.issued
    | none => none
  else none

/-- Whether the operation in flight in the given direction waits for its drive moment, and it has come. -/
def State.driveDue (s : State) (n : Nat) (dir : Switching) : Bool :=
  let o := s.outlet n
  o.switching = dir &&
    match o.drive with
    | some d => d.issued.isNone && d.moment ≤ s.now
    | none => false

/-- The drive of the operation in flight is issued now (R135, R138, R146). -/
def Outlet.issueDrive (o : Outlet) (now : Nat) : Outlet :=
  { Outlet.driven o with drive := o.drive.map fun d => { d with issued := some now } }

/-! ### Closing -/

/-- The close drive is issued; the moment becomes the branch's last close drive (R123, R135). -/
def State.closeDrive (s : State) (n : Nat) : State :=
  if s.driveDue n .closing then
    (s.modOutlet n fun o => Outlet.issueDrive o s.now).modGate (branchOf n) fun g => { g with lastDrive := some s.now }
  else s

/-- CLOSE_DRIVE (R135). -/
def execCloseDrive (t n : Nat) (s : State) : Host.Outcome State Fault Refusal := ((s.advance t).closeDrive n).done

/-- Whether the drive of an outlet's operation was aimed. -/
def Outlet.aimed (o : Outlet) : Bool :=
  match o.drive with
  | some d => d.aimed
  | none => false

/-- The outlet's fields at a confirmed close: IDLE, counted, and the close operate time learned where the
drive was aimed (R136, R139, R140). -/
def State.closedFields (s : State) (n issued : Nat) : State :=
  let o := s.outlet n
  let time := if o.aimed then learn o.closeTime (s.measured issued) else o.closeTime
  (s.setOutlet n { Outlet.counted (Outlet.ended o) with closeTime := time }).judgeWear n

/-- A close is confirmed (R136): the fields, the gate, the shed entry (R171), the owner, and a pending open
(R143). -/
def State.confirmClose (s : State) (n issued : Nat) : State :=
  ((((s.closedFields n issued).closeEnded n).closedLeavesShed n).told n .closeConfirmed).pendingAfterClose n

/-- The measured voltage is sensed, and a close in flight is confirmed where it is LIVE within the confirm
window of its drive (R133, R136). -/
def State.closeSensed (s : State) (n volts : Nat) : State :=
  let s := s.sense n volts
  match (s.outlet n).drivenAt .closing with
  | some d =>
    if s.now ≤ d + Config.confirmWindow ∧ (s.outlet n).sensed = .live then s.confirmClose n d else s
  | none => s

/-- CLOSE_CONFIRMED (R136). -/
def execCloseConfirmed (t n volts : Nat) (s : State) : Host.Outcome State Fault Refusal :=
  ((s.advance t).closeSensed n volts).done

/-- A close ends in NO_CLOSE (R136): the outlet is commanded OPEN again and driven open at once, unaimed; the
gate is told, the fault charged, the owner told, and a pending open ends at once (R141, R143). -/
def State.noClose (s : State) (n : Nat) : State :=
  let s := s.modOutlet n fun o => Outlet.driven { Outlet.ended o with commanded := .opened }
  ((s.closeEnded n).faultTold n .noClose .noClose).pendingAfterNone n

/-- The close window ends (R136): an outlet that stands sensed LIVE has its close confirmed, if no confirmation
was taken before (log 27); any other close ends in NO_CLOSE. -/
def State.closeWindowEnd (s : State) (n : Nat) : State :=
  match (s.outlet n).drivenAt .closing with
  | some d =>
    if d + Config.confirmWindow ≤ s.now then
      if (s.outlet n).sensed = .live then s.confirmClose n d else s.noClose n
    else s
  | none => s

/-- CLOSE_CONFIRM_WINDOW_END (R136). -/
def execCloseConfirmWindowEnd (t n : Nat) (s : State) : Host.Outcome State Fault Refusal :=
  ((s.advance t).closeWindowEnd n).done

/-! ### Opening -/

/-- The open drive is issued (R138). -/
def State.openDrive (s : State) (n : Nat) : State :=
  if s.driveDue n .opening then s.modOutlet n fun o => Outlet.issueDrive o s.now else s

/-- OPEN_DRIVE (R138). -/
def execOpenDrive (t n : Nat) (s : State) : Host.Outcome State Fault Refusal := ((s.advance t).openDrive n).done

/-- The end of an operation on the outlet of a branch's head judges the branch's gate (R121). -/
def State.headEnded (s : State) (n : Nat) : State :=
  match s.head (branchOf n) with
  | some e => if e.outlet = n then s.gateDue (branchOf n) else s
  | none => s

/-- The outlet's fields at a confirmed open with a drive: IDLE, counted, and the open operate time learned
where the drive was aimed (R138 to R140). -/
def State.openedFields (s : State) (n issued : Nat) : State :=
  let o := s.outlet n
  let time := if o.aimed then learn o.openTime (s.measured issued) else o.openTime
  (s.setOutlet n { Outlet.counted (Outlet.ended o) with openTime := time }).judgeWear n

/-- An open is confirmed (R138, R143). -/
def State.confirmOpen (s : State) (n issued : Nat) : State :=
  ((s.openedFields n issued).headEnded n).told n .openConfirmed

/-- The measured voltage is sensed, and an open in flight is confirmed where it is DEAD with an instantaneous
current below 5 cA within the confirm window of its drive (R133, R138). -/
def State.openSensed (s : State) (n volts current : Nat) : State :=
  let s := s.sense n volts
  match (s.outlet n).drivenAt .opening with
  | some d =>
    if s.now ≤ d + Config.confirmWindow ∧ (s.outlet n).sensed = .dead ∧ current < 5 then s.confirmOpen n d else s
  | none => s

/-- OPEN_CONFIRMED (R138). -/
def execOpenConfirmed (t n volts current : Nat) (s : State) : Host.Outcome State Fault Refusal :=
  ((s.advance t).openSensed n volts current).done

/-- An open ends in WELDED (R138): IDLE, drift held set, the fault charged and the owner told (R143). -/
def State.weld (s : State) (n : Nat) : State :=
  ((s.modOutlet n fun o => { Outlet.ended o with driftHeld := true }).headEnded n).faultTold n .welded .welded

/-- The open window ends unconfirmed (R138). -/
def State.openWindowEnd (s : State) (n : Nat) : State :=
  match (s.outlet n).drivenAt .opening with
  | some d => if d + Config.confirmWindow ≤ s.now then s.weld n else s
  | none => s

/-- OPEN_CONFIRM_WINDOW_END (R138). -/
def execOpenConfirmWindowEnd (t n : Nat) (s : State) : Host.Outcome State Fault Refusal :=
  ((s.advance t).openWindowEnd n).done

/-! ### Sensing and the patrol -/

/-- SENSED_POSITION_CHANGE (R133). -/
def execSensedPositionChange (t n volts : Nat) (s : State) : Host.Outcome State Fault Refusal :=
  ((s.advance t).sense n volts).done

/-- The next outlet in use after an outlet, the last followed by outlet 1 (R144). -/
def State.nextPatrol (s : State) (n : Nat) : Nat := if s.outletCount ≤ n then 1 else n + 1

/-- Whether the patrol passes an outlet over (R144). -/
def State.patrolSkips (s : State) (n : Nat) : Bool :=
  let o := s.outlet n
  o.busy || !s.phaseUp (s.phaseOf n) || !o.adopted || o.driftHeld || o.recheck.isSome

/-- Whether a commanded and a sensed position are in disagreement (R144). -/
def disagrees (o : Outlet) : Bool :=
  (o.commanded = .opened && o.sensed = .live) || (o.commanded = .closed && o.sensed = .dead)

/-- The examination of an outlet: a disagreement is recorded as its recheck (R144). -/
def State.examine (s : State) (n : Nat) : State :=
  if s.patrolSkips n then s
  else if disagrees (s.outlet n) then
    s.modOutlet n fun o => { o with recheck := some { found := o.sensed, moment := s.now, driven := false } }
  else s

/-- The patrol pointer advances, and the outlet it then names is examined (R144). -/
def State.patrolAdvance (s : State) : State :=
  if s.patrol.next ≤ s.now then
    let n := s.nextPatrol s.patrol.pointer
    ({ s with patrol := { pointer := n, next := s.patrol.next + Config.patrolPeriod } } : State).examine n
  else s

/-- PATROL_TICK (R144). -/
def execPatrolTick (t : Nat) (s : State) : Host.Outcome State Fault Refusal := ((s.advance t).patrolAdvance).done

/-- Whether a recheck gives the verdict DRIFT (R145). -/
def State.drifts (s : State) (n : Nat) (r : Recheck) : Bool :=
  s.phaseUp (s.phaseOf n) && !r.driven && (s.outlet n).sensed = r.found

/-- The recheck of an outlet is judged and removed (R145). -/
def State.judgeRecheck (s : State) (n : Nat) : State :=
  match (s.outlet n).recheck with
  | none => s
  | some r =>
    if s.drifts n r then
      (s.modOutlet n fun o => { o with recheck := none, driftHeld := true }).faultTold n .drift .drift
    else s.modOutlet n fun o => { o with recheck := none }

/-- The window end at the Switching Unit: every recheck held is judged, outlets ascending (R145). -/
def State.recheckWindow (s : State) : State := outletNumbers.foldl State.judgeRecheck s

end Sys2Proof.Machine
end

