-- ==== Sys2Proof/Machine/Configure.lean ====
section
/-! DEFINITION. CONFIGURE: its ranks (R13), the change of geometry (R14) and the effects of changed settings
(R15). -/

namespace Sys2Proof.Machine

/-! ### The resulting settings -/

/-- One carried value is applied. -/
def applyChange (g : Settings) : SettingChange → Settings
  | .branchCount v => { g with countOvr := v }
  | .rating v => { g with ratingOvr := v }
  | .side v => { g with sideOvr := v }
  | .nominal v => { g with nominal := v }
  | .ceiling b v => { g with ceiling := vset g.ceiling (index1 b) v }
  | .threshold b v => { g with threshold := vset g.threshold (index1 b) v }
  | .hysteresis v => { g with hysteresis := v }
  | .spacing v => { g with spacing := v }
  | .restoreMode b m => { g with restoreMode := vset g.restoreMode (index1 b) m }
  | .restoreDelay v => { g with restoreDelay := v }
  | .extClass v => { g with extClass := v }
  | .extRestore m => { g with extRestore := m }
  | .dripPeriod v => { g with dripPeriod := v }
  | .faultThreshold v => { g with faultThreshold := v }
  | .wearLimit v => { g with wearLimit := v }
  | .raiseLimit v => { g with raiseLimit := v }
  | .enable f v => { g with enables := Flags.put g.enables v f }
  | .master v => { g with master := v }

/-- Every branch takes its defaults for a rating: ceiling, threshold and restore mode (R14). -/
def branchDefaults (g : Settings) (rating : Nat) : Settings :=
  let d := Settings.defaults rating
  { g with ceiling := d.ceiling, threshold := d.threshold, restoreMode := d.restoreMode }

/-- The state under changed settings, everything else kept. -/
def State.under (s : State) (g : Settings) : State := { s with settings := g }

/-- The settings as they would stand once every carried value is applied; a changed branch count or rating
first resets the per-branch settings (R13, R14). -/
def State.resulting (s : State) (cs : List SettingChange) : Settings :=
  let plain := cs.foldl applyChange s.settings
  let t := s.under plain
  if t.branchCount = s.branchCount ∧ t.rating = s.rating then plain
  else cs.foldl applyChange (branchDefaults s.settings t.rating)

/-- Whether some outlet is LENT. -/
def State.anyLent (s : State) : Bool := outletNumbers.any fun n => (s.homeTag n).isSome

/-- The refusal of a CONFIGURE, where `t` is the state under the resulting settings (R13). -/
def State.configureFails (s t : State) (cs : List SettingChange) : Option Status :=
  if cs.isEmpty || !distinct (cs.map settingKey) || !cs.all (settingInRange t.branchCount t.rating t.ceiling) then
    some .badRequest
  else if cs.any settingIsGeometry && (!s.occupied.isEmpty || s.anyLent) then some .locked
  else if t.branchesInUse.any fun b => t.threshold b < t.ceiling b || t.rating * 10 < t.threshold b then
    some .badRequest
  else if t.branchesInUse.any fun b => t.threshold b ≤ t.settings.hysteresis then some .badRequest
  else if t.branchesInUse.any fun b => t.ceiling b < t.branchSum b then some .overBudget
  else none

/-! ### A change of geometry (R14) -/

/-- An outlet that leaves use: its figures 0, its relay held open, no longer adopted (R5, R14, R154; log
24). -/
def Outlet.leftUse (o : Outlet) : Outlet :=
  { Outlet.ended o with
    commanded := .opened, pendingOpen := false, recheck := none, adopted := false, sensed := .unknown,
    current := 0, power := 0, offset := none, energy := 0, residue := 0 }

/-- An outlet that comes into use: FREE, with no marker, commanded OPEN and IN_SERVICE, not yet adopted (R6,
R14). -/
def Outlet.enteredUse (o : Outlet) : Outlet :=
  { o with owner := .free, reservation := 0, releasing := false, shed := false, lineLost := false, dropHold := none,
           commanded := .opened, service := .inService, adopted := false }

/-- An outlet leaves use; one still releasing is freed, since its open ends here (R10; log 24). -/
def State.leaveUse (s : State) (n : Nat) : State :=
  let t := s.modOutlet n Outlet.leftUse
  if (s.outlet n).releasing then t.freeOutlet n else t

/-- One outlet at a change of geometry, `was` the state before it. -/
def State.reuseOutlet (was s : State) (n : Nat) : State :=
  if was.inUse n && !s.inUse n then s.leaveUse n
  else if !was.inUse n && s.inUse n then s.modOutlet n Outlet.enteredUse
  else s

/-- One branch at a change of geometry: its guard as after a cold reset; the gate and the branch current of
a branch that leaves or comes into use discarded (R14, R118, R165). -/
def State.reuseBranch (was s : State) (b : Nat) : State :=
  let s := s.modGuard b fun _ => Guard.cold
  if was.branchInUse b = s.branchInUse b then s.gateDue b
  else
    let s := s.modGate b fun _ => Gate.cold
    ({ s with meter := { s.meter with branch := vset s.meter.branch (index1 b) 0 } } : State).gateDue b

/-- An outlet in use that is not adopted is adopted if its phase has had its first judgement (R14; log
24). -/
def State.adoptNow (s : State) (n : Nat) : State :=
  if (s.line (s.phaseOf n)).state = .unknown then s else s.adoptUp n

/-- What a change of the branch count or the rating in force does (R14); `was` is the state before it. -/
def State.changeGeometry (was s : State) : State :=
  let s := branchNumbers.foldl (fun s b => was.reuseBranch s b) s
  let s := outletNumbers.foldl (fun s n => was.reuseOutlet s n) s
  let s := s.senseAll s.outletsInUse
  let s := s.outletsInUse.foldl State.adoptNow s
  if s.inUse s.patrol.pointer then s else { s with patrol := { s.patrol with pointer := 1 } }

/-! ### Effects of changed settings (R15) -/

/-- A close taken but not driven has its drive moment fixed again (R135). -/
def State.reaim (s : State) (n : Nat) : State :=
  if (s.outlet n).undriven then s.modOutlet n fun o => { o with drive := some (s.closeDriveOf n) } else s

/-- A changed inrush spacing: drives not yet issued are fixed again, and every gate is judged (R15, R121,
R135). -/
def State.spacingChanged (s : State) : State :=
  s.branchesInUse.foldl State.gateDue (outletNumbers.foldl State.reaim s)

/-- Wear reported is cleared where a changed wear limit lies above the outlet's count (R140). -/
def State.wearChanged (s : State) : State :=
  outletNumbers.foldl
    (fun s n => s.modOutlet n fun o => { o with wear := o.wear && s.settings.wearLimit ≤ o.ops }) s

/-- The gates of branches whose trip threshold has changed are judged (R121). -/
def State.thresholdsChanged (was s : State) : State :=
  s.branchesInUse.foldl (fun s b => if was.threshold b = s.threshold b then s else s.gateDue b) s

/-- A changed branch count or rating changes the geometry (R14). -/
def State.noteGeometry (was s : State) : State :=
  if s.branchCount = was.branchCount ∧ s.rating = was.rating then s else was.changeGeometry s
/-- A changed inrush spacing acts (R15). -/
def State.noteSpacing (was s : State) : State :=
  if s.settings.spacing = was.settings.spacing then s else s.spacingChanged
/-- A changed wear limit acts (R140). -/
def State.noteWear (was s : State) : State :=
  if s.settings.wearLimit = was.settings.wearLimit then s else s.wearChanged
/-- A changed drip period starts the drip timer from zero (R15, R88). -/
def State.noteDrip (was s : State) : State :=
  if s.settings.dripPeriod = was.settings.dripPeriod then s else { s with dripStart := s.now }

/-- The new settings are in force, and each changed one takes effect (R14, R15; log 25). A changed side is
taken up by the next HELLO made (R14, `State.helloSend`). -/
def State.reconfigure (was : State) (g : Settings) : State :=
  was.noteDrip (was.noteWear (was.noteSpacing (was.thresholdsChanged (was.noteGeometry (was.under g)))))

/-- CONFIGURE, judged by its ranks (R13). -/
def State.configure (s : State) (cs : List SettingChange) : State × Reply :=
  let g := s.resulting cs
  match s.configureFails (s.under g) cs with
  | some st => (s, .plain st)
  | none => (s.reconfigure g).ok

/-- CONFIGURE (R13). -/
def execConfigure (t : Nat) (body : Body (List SettingChange)) (s : State) : Host.Outcome State Fault Refusal :=
  ((s.advance t).request .configure body State.configure).done

end Sys2Proof.Machine
end

