-- ==== Sys2Proof/Machine/Claims.lean ====
section
/-! DEFINITION. Branch Accounting: claims (R9) and exchanges (R11). -/

namespace Sys2Proof.Machine

/-- The ranks at which a claim fails (R9). -/
inductive ClaimFail where | number | range | notAdopted | taken | failed | budget
deriving DecidableEq, Repr

/-- The refusal of a claim to the Load Table Unit (R9). -/
def ClaimFail.status : ClaimFail → Status
  | .number => .badRequest
  | .range => .badRequest
  | .notAdopted => .busy
  | .taken => .outletTaken
  | .failed => .outletFailed
  | .budget => .overBudget

/-- The reason of a refused claim to the partner (R9). -/
def ClaimFail.reason : ClaimFail → RefuseReason
  | .number => .outletTaken
  | .range => .overBudget
  | .notAdopted => .outletTaken
  | .taken => .outletTaken
  | .failed => .outletFailed
  | .budget => .overBudget

/-- What a list of entries places on a branch. -/
def placedOn (b : Nat) (es : List OutletRes) : Nat :=
  es.foldl (fun acc e => if branchOf e.outlet = b then acc + e.res else acc) 0

/-- Whether some branch that the entries place a reservation on would exceed its admit ceiling (R9, rank
6). -/
def State.overBudget (s : State) (es : List OutletRes) : Bool :=
  es.any fun e => s.ceiling (branchOf e.outlet) < s.branchSum (branchOf e.outlet) + placedOn (branchOf e.outlet) es

/-- The judgement of a claim, in rank order (R9). Rank 3 does not apply to a claim that restores the image
(R17). -/
def State.claimFails (s : State) (es : List OutletRes) (restoring : Bool) : Option ClaimFail :=
  if es.any (fun e => !s.inUse e.outlet) || !distinct (es.map (·.outlet)) then some .number
  else if es.any fun e => !within 1 (s.rating * 10) e.res then some .range
  else if !restoring && es.any fun e => !(s.outlet e.outlet).adopted then some .notAdopted
  else if es.any fun e => !(s.outlet e.outlet).isFree || (s.outlet e.outlet).releasing then some .taken
  else if es.any fun e => (s.outlet e.outlet).isFailed then some .failed
  else if s.overBudget es then some .budget
  else none

/-- A passed claim gives each outlet its owner and its reservation (R9). -/
def State.take (s : State) (es : List OutletRes) (owner : Owner) : State :=
  es.foldl (fun s e => s.modOutlet e.outlet fun o => { o with owner := owner, reservation := e.res }) s

/-! ### Exchanges -/

/-- The outlets of a present list that a new list gives up. -/
def givenUp (present new : List OutletRes) : List Nat :=
  (present.map (·.outlet)).filter fun n => !new.any fun e => e.outlet = n
/-- The entries of a new list whose outlets a present list does not have. -/
def gained (present new : List OutletRes) : List OutletRes :=
  new.filter fun e => !present.any fun f => f.outlet = e.outlet
/-- The entries of a new list whose outlets a present list has. -/
def kept (present new : List OutletRes) : List OutletRes :=
  new.filter fun e => present.any fun f => f.outlet = e.outlet

/-- The kept outlets carry their new reservations; the gate of a branch whose head's reservation changes is
judged (R11, R121). -/
def State.rereserve (s : State) (es : List OutletRes) : State :=
  es.foldl
    (fun s e =>
      if (s.outlet e.outlet).reservation = e.res then s
      else
        let t := s.modOutlet e.outlet fun o => { o with reservation := e.res }
        match s.head (branchOf e.outlet) with
        | some h => if h.outlet = e.outlet then t.gateDue (branchOf e.outlet) else t
        | none => t) s

/-- The given-up outlets are freed; each is commanded OPEN and idle. -/
def State.giveUp (s : State) (ns : List Nat) : State := (s.withdrawAll ns).releaseOutlets ns

/-- The kept entries whose reservation rises. -/
def State.raised (s : State) (es : List OutletRes) : List OutletRes :=
  es.filter fun e => (s.outlet e.outlet).reservation < e.res

/-- Whether an exchange would leave a branch that it adds to above its ceiling (R11). -/
def State.exchangeOver (s after : State) (more keep : List OutletRes) : Bool :=
  (more ++ s.raised keep).any fun e =>
    after.ceiling (branchOf e.outlet) < after.branchSum (branchOf e.outlet) + placedOn (branchOf e.outlet) more

/-- An exchange for the load in a slot from its present list to a new one: the refusal, or the state after
it, the record's list with it (R11, R35). -/
def State.exchange (s : State) (i : Nat) (present new : List OutletRes) : Except Status State :=
  let out := givenUp present new
  let more := gained present new
  let keep := kept present new
  let after := (s.giveUp out).rereserve keep
  if s.anyOutlet out fun o => !o.settledOpen then .error .wrongState
  else
    match after.claimFails more false with
    | some f => .error f.status
    | none =>
      if s.exchangeOver after more keep then .error .overBudget
      else .ok ((after.take more (.bound i)).modLoad i fun l => { l with locals := new })

end Sys2Proof.Machine
end

