-- ==== Sys2Proof/Machine/Beats.lean ====
section
/-! DEFINITION. What reaches a watch: beats (R71 to R80), its timers (R71 to R73), window ends (R73 to R76),
and the drip (R89). -/

namespace Sys2Proof.Machine

/-! ### Beats -/

/-- The record when its watch leaves BOOT under the policy in force: INACTIVE without one, else LIVE
(R71). -/
def Load.leaveBoot (l : Load) (now : Nat) : Load :=
  { l with watch := watchOn l.watchPolicy .live now, postCycleBoot := false }

/-- A beat or boot grace expiry in BOOT first latches a staged amendment where post-cycle boot is set
(R71). -/
def State.latchBoot (s : State) (i : Nat) : State :=
  match s.load i with
  | some l => if l.postCycleBoot then s.latch i false else s
  | none => s

/-- A beat for a load in ON, by the sub-state of its watch (R71 to R73, R76, R77). -/
def State.beatOn (s : State) (i : Nat) (l : Load) : State :=
  match l.watch.sub with
  | .inactive => s
  | .boot => (s.latchBoot i).modLoad i fun l => Load.leaveBoot l s.now
  | .live => s.modLoad i fun l => { l with watch := watchOn l.watchPolicy .live s.now }
  | .suspect => s.modLoad i fun l => { l with watch := watchOn l.watchPolicy .live s.now }
  | .hung => s.modLoad i fun l => { l with watch := watchOn l.watchPolicy .live s.now }

/-- The effect of one beat, by the state of its load (R80). -/
def State.beat (s : State) (i : Nat) : State :=
  match s.load i with
  | some l =>
    match l.state with
    | .on => s.beatOn i l
    | .stranded => s.enterOn i .live false
    | .cycling => if s.waiting i then (s.leaveWaiting i).enterOn i .live false else s
    | _ => s
  | none => s

/-- The beats of a list of tags, in list order, with the counts of tags that resolved and that did not
(R79). -/
def State.beats (s : State) : List Tag → State × Nat × Nat
  | [] => (s, 0, 0)
  | t :: ts =>
    match (if t = 0 then none else s.resolve t) with
    | some i => let (s', k, u) := (s.beat i).beats ts; (s', k + 1, u)
    | none => let (s', k, u) := s.beats ts; (s', k, u + 1)

/-! ### Timers -/

/-- Whether the watch of the load in a slot, in ON, is in a sub-state whose timer has expired. -/
def State.watchDue (s : State) (i : Nat) (sub : WatchSub) (timer : Watch → Option Nat) : Bool :=
  match s.load i with
  | some l => l.state = .on && l.watch.sub = sub && s.due (timer l.watch)
  | none => false

/-- Boot grace expires (R71): a staged amendment latches first; then a hang is confirmed in a beat mode, and
the watch goes to LIVE in mode FLAT. -/
def State.bootExpiry (s : State) (i : Nat) : State :=
  if s.watchDue i .boot (·.boot) then
    let s := s.latchBoot i
    match s.load i with
    | some l =>
      match l.watchPolicy with
      | some p => if watchBeats p then s.confirmHang i .bootExpiry else s.modLoad i fun l => Load.leaveBoot l s.now
      | none => s.modLoad i fun l => Load.leaveBoot l s.now
    | none => s
  else s

/-- The beat deadline expires (R72): SUSPECT, the confirm timer set one beat interval ahead, the flat span
kept. -/
def State.beatExpiry (s : State) (i : Nat) : State :=
  if s.watchDue i .live (·.beat) then
    s.modLoad i fun l =>
      match l.watchPolicy with
      | some p =>
        { l with watch := { l.watch with
                              sub := .suspect, beat := none, confirm := some (s.now + p.interval * Config.sec) } }
      | none => l
  else s

/-- The confirm timer expires (R73): a hang is confirmed, unless mode BEAT_AND_FLAT still waits for the flat
sign. -/
def State.confirmExpiry (s : State) (i : Nat) : State :=
  if s.watchDue i .suspect (·.confirm) then
    match s.load i with
    | some l =>
      match l.watchPolicy with
      | some p =>
        if p.mode = .beat || l.watch.flatSign then s.confirmHang i .hang
        else s.modLoad i fun l => { l with watch := { l.watch with confirm := none } }
      | none => s
    | none => s
  else s

/-! ### Window ends -/

/-- The load power: the sum of the window real power of the local outlets, in W (R74). -/
def State.loadPower (s : State) (i : Nat) : Nat :=
  (s.localsOf i).foldl (fun acc n => acc + (s.outlet n).power) 0

/-- Whether a window is judgeable for the load: some local outlet is commanded CLOSED on a phase that is up
(R74, item 1). -/
def State.judgeable (s : State) (i : Nat) : Bool :=
  (s.localsOf i).any fun n => (s.outlet n).isClosed && s.phaseUp (s.phaseOf n)

/-- What a window end finds of a flat span (R74). -/
inductive FlatFinding where | notJudgeable | started | broken | flat | running
deriving DecidableEq, Repr

/-- The judgement of one window, in the order of R74. -/
def flatFinding (judgeable : Bool) (w : Watch) (p : WatchPolicy) (power now : Nat) : FlatFinding :=
  if !judgeable then .notJudgeable
  else match w.ref with
    | none => .started
    | some r =>
      if p.band < power - r ∨ p.band < r - power then .broken
      else if w.spanStart + p.span * Config.sec ≤ now then .flat
      else .running

/-- The span after the finding (R74). -/
def Watch.spanned (w : Watch) (f : FlatFinding) (power now : Nat) : Watch :=
  match f with
  | .notJudgeable => w.spanCleared
  | .started => { w with ref := some power, spanStart := now, flatSign := false }
  | .broken => { w with ref := some power, spanStart := now, flatSign := false }
  | .flat => { w with flatSign := true }
  | .running => w

/-- Whether a window end at which the flat sign becomes present confirms a hang (R73, R76). -/
def Watch.confirmsFlat (w : Watch) (p : WatchPolicy) (f : FlatFinding) : Bool :=
  f = .flat && !w.flatSign && w.sub = .suspect && (p.mode = .flat || w.confirm.isNone)

/-- The watch after a window end that confirms no hang (R74, R76). -/
def Watch.windowed (w : Watch) (p : WatchPolicy) (f : FlatFinding) (power now : Nat) : Watch :=
  let v := w.spanned f power now
  if p.mode = .flat && w.sub = .live && f = .flat && !w.flatSign then { v.spanCleared with sub := .suspect }
  else if p.mode = .flat && w.sub = .suspect && f = .broken then { v with sub := .live }
  else v

/-- The window end at the watch of one load (R74). -/
def State.watchLoad (s : State) (i : Nat) : State :=
  match s.load i with
  | some l =>
    match l.watchPolicy with
    | some p =>
      if l.state = .on && (l.watch.sub = .live || l.watch.sub = .suspect) && watchFlats p then
        let power := s.loadPower i
        let f := flatFinding (s.judgeable i) l.watch p power s.now
        let s' := s.setLoad i { l with watch := l.watch.windowed p f power s.now }
        if l.watch.confirmsFlat p f then s'.confirmHang i .hang else s'
      else s
    | none => s
  | none => s

/-- The window end at the Watch Unit, slots ascending (R81). -/
def State.watchWindow (s : State) : State := slotNumbers.foldl State.watchLoad s

/-! ### The drip -/

/-- What the drip does to a record (R89). -/
def Load.dripped (l : Load) : Load := if l.state = .quarantined then l else { l with strikes := l.strikes - 1 }

/-- The drip timer expires (R89): strike counts and outlet fault counts that are not zero go down by one. -/
def State.drip (s : State) : State :=
  let s := slotNumbers.foldl (fun s i => s.modLoad i Load.dripped) s
  let s := s.outletsInUse.foldl (fun s n => s.modOutlet n fun o => { o with faults := o.faults - 1 }) s
  { s with dripStart := s.now }

end Sys2Proof.Machine
end

