-- ==== Sys2Proof/Machine/Views.lean ====
section
/-! DEFINITION. What requests that read answer with: LOOKUP (R43), LIST (R44), NOTICES (R67), OUTLETS (R131,
R151, R180, R199), METER (R162, R163), SETTINGS (R12, R199) and ATTENTION (R208). -/

namespace Sys2Proof.Machine

/-! ### Load Table -/

/-- The answer of LOOKUP for an occupied slot (R43). -/
def State.lookupBody (s : State) (i : Nat) (l : Load) : AnswerBody :=
  .lookup (LookupView.bytes { slot := i, load := l, phase := s.phaseShown i })

/-- The occupied slots at or above the first, ascending. -/
def State.occupiedFrom (s : State) (first : Nat) : List Nat := s.occupied.filter fun i => first ≤ i

/-- The state of the load in a slot with what stands beside it: the quarantine reason in QUARANTINED, the cycle phase
in CYCLING and the watch sub-state (R43, R49). -/
def State.stateShown (s : State) (i : Nat) (l : Load) : StateShown :=
  { state := l.state, reason := if l.state = .quarantined then l.qReason else none, phase := s.phaseShown i,
    watch := l.watch.sub }

/-- The entry of LIST for a slot (R44). -/
def State.listEntry (s : State) (i : Nat) : Option ListEntry :=
  (s.load i).map fun l => { slot := i, tag := l.tag, shown := s.stateShown i l, revision := l.revision }

/-- The answer of LIST: up to 8 entries from the first slot, and whether an occupied slot lies above the
last (R44). -/
def State.listBody (s : State) (first : Nat) : AnswerBody :=
  let all := s.occupiedFrom first
  .list ((all.take 8).filterMap s.listEntry) (8 < all.length)

/-- The occupied slots whose notice set is not empty, ascending (R67). -/
def State.noticed (s : State) : List Nat :=
  s.occupied.filter fun i =>
    match s.load i with
    | some l => l.notices != 0
    | none => false

/-- The entry of NOTICES for a slot (R67). -/
def State.noticeEntry (s : State) (i : Nat) : Option NoticeEntry :=
  (s.load i).map fun l => { slot := i, tag := l.tag, set := l.notices }

/-- The answer of NOTICES (R67). -/
def State.noticesBody (s : State) : AnswerBody :=
  .notices ((s.noticed.take 8).filterMap s.noticeEntry) (8 < s.noticed.length)

/-! ### Outlets -/

/-- The queue entry of an outlet with its position among the entries of its branch, from 1 (R131). -/
def State.entryView (s : State) (n : Nat) : Option EntryView :=
  let mine := s.queue.filter fun e => branchOf e.outlet = branchOf n
  match s.entryOf n with
  | some e =>
    some { cause := e.cause, prio := e.prio, owner := e.owner,
           position := (mine.takeWhile fun x => x.outlet != n).length + 1 }
  | none => none

/-- Time left until a moment, as OUTLETS gives it: in whole ms, rounded down. R151 and R199 give neither unit nor
rounding; the choice is the model's (log 31). -/
def State.leftMs (s : State) (moment : Nat) : Nat := (moment - s.now) / Config.ms

/-- The kind and order number of the pending answer of a LENT outlet's home tag (R199). -/
def State.answerView (s : State) (n : Nat) : Option (AnswerKind × Nat) :=
  match s.homeTag n with
  | some t => (s.answerOf t).map fun a => (a.kind, a.order)
  | none => none

/-- The entry of OUTLETS for an outlet (R151, R199). -/
def State.outletView (s : State) (n : Nat) : OutletView :=
  let o := s.outlet n
  { outlet := n, branch := branchOf n, phase := s.phaseOf n, owner := o.owner, reservation := o.reservation,
    releasing := o.releasing, shed := o.shed, lineLost := o.lineLost, adopted := o.adopted,
    held := o.dropHold.isSome,
    holdLeft := (match o.dropHold with
      | some h => h.deadline.map s.leftMs
      | none => none)
    answer := s.answerView n, service := o.service, commanded := o.commanded, sensed := o.sensed,
    switching := o.switching, pendingOpen := o.pendingOpen, driftHeld := o.driftHeld, wear := o.wear,
    closeTime := o.closeTime, openTime := o.openTime, faults := o.faults, ops := o.ops, entry := s.entryView n }

/-- A shed list entry as OUTLETS reports it (R180). -/
def State.shedView (s : State) (e : ShedEntry) : ShedView :=
  { tag := (match e.victim with
      | .home t => t
      | .slot i =>
        match s.load i with
        | some l => l.tag
        | none => 0)
    kind := e.kind, outlets := e.outlets }

/-- The gate and guard fields of a branch (R131, R180). -/
def State.branchView (s : State) (b : Nat) : BranchView :=
  let g := s.gate b
  let r := s.guard b
  { branch := b, closing := g.closing, sinceDrive := g.lastDrive.map s.ageMs, reason := g.reason,
    guard := r.state, overCount := r.overCount, settle := r.settle, restoreAge := r.restoreStart.map s.ageMs,
    list := r.list.map s.shedView }

/-- The outlets in use from the first upward, up to the count (R151, R162). -/
def State.outletRange (s : State) (first count : Nat) : List Nat :=
  (s.outletsInUse.filter fun n => first ≤ n).take count

/-- The answer of OUTLETS (R151, R180). -/
def State.outletsBody (s : State) (first count : Nat) : AnswerBody :=
  .outlets
    { outlets := (s.outletRange first count).map s.outletView, branches := s.branchesInUse.map s.branchView,
      extActive := s.ext.active, extClass := s.ext.cls, extList := s.ext.list.map s.shedView }

/-! ### METER -/

/-- The entry of METER for an outlet (R162). -/
def State.meterOutlet (s : State) (n : Nat) : MeterOutlet :=
  let o := s.outlet n
  { outlet := n, branch := branchOf n, phase := s.phaseOf n, current := o.current, power := o.power,
    offset := o.offset, energy := o.energy }

/-- METER's figures of a branch (R163). -/
def State.meterBranch (s : State) (b : Nat) : MeterBranch :=
  let p := phaseOfBranch s.branchCount b
  { current := s.branchCurrent b,
    outlets := (outletNumbers.filter fun n => branchOf n = b).map fun n => (s.outlet n).current,
    phase := p, state := (s.line p).state, locked := (s.line p).locked }

/-- METER's figures of a phase (R163). -/
def State.meterPhase (s : State) (p : Phase) : MeterPhase :=
  let l := s.line p
  { volts := l.volts, freq := l.freq, current := l.current, state := l.state, locked := l.locked, run := l.run,
    half := l.half,
    missed := if l.state = .up then some l.missed else none,
    goodRunMs := if l.state = .up then none
      else some (match l.goodRun with
        | some g => s.ageMs g
        | none => 0) }

/-- METER's figures, by its selector. -/
def State.meterFigures (s : State) : MeterSel → MeterFigures
  | .range first count => .outlets ((s.outletRange first count).map s.meterOutlet)
  | .branch b => .branch (s.meterBranch b)
  | .phase p => .phase (s.meterPhase p)

/-- The answer of METER: the window number, the time since that window ended, and the figures (R162). -/
def State.meterBody (s : State) (sel : MeterSel) : AnswerBody :=
  .meter s.meter.number (s.meter.lastEnd.map s.ageMs) (s.meterFigures sel)

/-! ### SETTINGS and ATTENTION -/

/-- A branch in SETTINGS (R12). -/
def State.settingsBranch (s : State) (b : Nat) : SettingsBranch :=
  { branch := b, ceiling := s.ceiling b, threshold := s.threshold b, restoreMode := s.restoreMode b,
    sum := s.branchSum b }

/-- The answer of SETTINGS (R12, R199). -/
def State.settingsBody (s : State) : AnswerBody :=
  .settings
    { straps := s.strap, count := s.branchCount, countOverridden := s.settings.countOvr.isSome, rating := s.rating,
      ratingOverridden := s.settings.ratingOvr.isSome, side := s.side, sideOverridden := s.settings.sideOvr.isSome,
      settings := s.settings, branches := s.branchesInUse.map s.settingsBranch, presence := s.link.presence,
      announce := s.link.announce, announceAge := s.link.announce.map fun a => s.ageMs a.moment }

/-- The answer of ATTENTION (R208). -/
def State.attentionBody (s : State) : AnswerBody :=
  .attention { flags := s.flags, enables := s.settings.enables, master := s.settings.master,
               valid := s.store.valid, lastSave := s.store.lastSave }

end Sys2Proof.Machine
end

