-- ==== Sys2Proof/Machine/Table.lean ====
section
/-! DEFINITION. The requests of chapter The Load Table: ADMIT, AMEND, RETIRE, LOOKUP, LIST, PIN and ALIAS
(R29 to R47), with NOTICES (R67). The ends of the orders they send are in Home.lean. -/

namespace Sys2Proof.Machine

/-! ### ADMIT -/

/-- The form of an ADMIT (R29, rank 1). -/
def admitOk (rating : Nat) (r : AdmitReq) : Bool :=
  r.tag != 0 && localListOk rating r.locals && peerListOk r.peers && r.prio.getD 1 ≤ 3 &&
    (match r.watch with | some w => watchPolicyOk w | none => true) &&
    cyclePolicyOk (r.cycle.getD defaultCyclePolicy)

/-- Whether a record holds what an ADMIT carries once defaults are filled in (R30). -/
def admitRepeats (r : AdmitReq) (l : Load) : Bool :=
  sameEntries l.locals r.locals && sameEntries l.peers r.peers && l.prio = r.prio.getD 1 &&
    l.pop = r.pop.getD .last && l.watchPolicy = r.watch && l.cyclePolicy = r.cycle.getD defaultCyclePolicy

/-- The record that an ADMIT is a repeat of (R30). -/
def State.repeated (s : State) (r : AdmitReq) : Option Load :=
  if r.expectedNone then none
  else match s.slotOfTag r.tag with
    | some i =>
      match s.load i with
      | some l => if admitRepeats r l then some l else none
      | none => none
    | none => none

/-- The lowest-numbered empty slot (R22). -/
def State.emptySlot (s : State) : Option Nat := slotNumbers.find? fun i => (s.load i).isNone

/-- The record that an ADMIT creates (R31, R32). -/
def newLoad (r : AdmitReq) (revision : Nat) : Load :=
  { tag := r.tag, revision := revision, locals := r.locals, peers := r.peers, prio := r.prio.getD 1,
    pop := r.pop.getD .last, wantedOn := r.pop.getD .last = .on, watchPolicy := r.watch,
    cyclePolicy := r.cycle.getD defaultCyclePolicy, aliases := [], pinned := false,
    state := if r.peers.isEmpty then .unpowered else .admitting, qReason := none, strikes := 0, notices := 0,
    staged := none, postCycleBoot := false, awaiting := false, lastOutcome := none, powerTime := none,
    startRestored := false, watch := Watch.stopped, order := none, amendSeq := none }

/-- A passed ADMIT: the claim, the record, and for a dual-corded load the BIND (R29, R31, R32). -/
def State.admitInto (s : State) (i : Nat) (r : AdmitReq) : State × Reply :=
  let c := nextRevision (s.slot i).counter
  let s := (s.take r.locals (.bound i)).setSlot i { counter := c, load := some (newLoad r c) }
  if r.peers.isEmpty then s.ok else (s.sendBind i .admission r.peers, .held i)

/-- ADMIT, ranks 4 to 6 (R29). -/
def State.admitNew (s : State) (r : AdmitReq) : State × Reply :=
  match s.emptySlot with
  | none => (s, .plain .tableFull)
  | some i =>
    if !r.peers.isEmpty && !s.linkUp then (s, .plain .peerDown)
    else match s.claimFails r.locals false with
      | some f => (s, .plain f.status)
      | none => s.admitInto i r

/-- ADMIT, judged by its ranks (R29, R30). -/
def State.admitLoad (s : State) (r : AdmitReq) : State × Reply :=
  if !admitOk s.rating r then (s, .plain .badRequest)
  else match s.repeated r with
    | some l => if l.state = .admitting || l.state = .retiring then (s, .plain .busy) else s.ok
    | none => if (s.resolve r.tag).isSome then (s, .plain .tagInUse) else s.admitNew r

/-- ADMIT (R29). -/
def execAdmit (t : Nat) (body : Body AdmitReq) (s : State) : Host.Outcome State Fault Refusal :=
  ((s.advance t).request .admitLoad body State.admitLoad).done

/-! ### AMEND -/

/-- The form of an AMEND (R34, rank 1): a named policy value without a code of R25's is out of range. -/
def amendOk (rating : Nat) (r : AmendReq) : Bool :=
  (match r.locals with | some es => localListOk rating es | none => true) &&
    (match r.peers with | some es => peerListOk es && r.locals.isNone && policyEmpty r.policy | none => true) &&
    policyChangeOk r.policy && (r.locals.isSome || r.peers.isSome || !policyEmpty r.policy) && !r.undefinedCode

/-- The staging condition (R38). -/
def Load.stages (l : Load) : Bool :=
  l.state = .cycling || (l.state = .on && l.watch.sub = .boot && l.postCycleBoot)

/-- Whether an AMEND carries a local list whose outlet set differs, or a peer list (R34, rank 4). -/
def amendMovesOutlets (r : AmendReq) (l : Load) : Bool :=
  r.peers.isSome || (match r.locals with | some es => !sameOutlets l.locals es | none => false)

/-- Whether an AMEND carries a strike threshold below the present count (R34, rank 6). -/
def amendBelowStrikes (r : AmendReq) (l : Load) : Bool :=
  match r.policy.cycle with
  | some c => c.threshold < l.strikes
  | none => false

/-- Whether an AMEND carries a peer list that differs from the present one. -/
def amendMovesPeers (r : AmendReq) (l : Load) : Bool :=
  match r.peers with
  | some es => !sameEntries l.peers es
  | none => false

/-- The refusal of an AMEND by ranks 1 to 7 (R34). -/
def State.amendFails (s : State) (r : AmendReq) (l : Load) : Option Status :=
  if !amendOk s.rating r then some .badRequest
  else if l.state = .admitting || l.state = .retiring then some .wrongState
  else if l.awaiting && (r.locals.isSome || r.peers.isSome) then some .busy
  else if amendMovesOutlets r l && l.state != .unpowered then some .wrongState
  else if r.locals.isSome && l.stages then some .wrongState
  else if l.state = .quarantined && amendBelowStrikes r l then some .wrongState
  else if amendMovesPeers r l && !s.linkUp then some .peerDown
  else none

/-- The peer-list sequence begins with an UNBIND, or with a BIND where there is nothing lent (R36). -/
def State.amendPeers (s : State) (i : Nat) (l : Load) (es : List OutletRes) : State × Reply :=
  let s := s.modLoad i fun l => { l with amendSeq := some { carried := es, before := l.peers } }
  if l.peers.isEmpty then ((s.moveTo i .admitting).sendBind i .amendment es, .held i)
  else ((s.moveTo i .retiring).sendUnbind i .amendment, .held i)

/-- The policy fields of an AMEND are applied at once, the revision incremented, and the answer is DONE
(R27, R35, R37). -/
def State.amendApply (s : State) (i : Nat) (r : AmendReq) : State × Reply :=
  ((s.modLoad i fun l => Load.applied l r.policy true s.now).bumpRevision i).ok

/-- A passed AMEND is carried out (R35 to R38). -/
def State.amendRun (s : State) (i : Nat) (l : Load) (r : AmendReq) : State × Reply :=
  match r.peers with
  | some es => if sameEntries l.peers es then (s.bumpRevision i).ok else s.amendPeers i l es
  | none =>
    if l.stages then
      (s.modLoad i fun l => { l with staged := some r.policy }, .answer .staged (.revision l.revision))
    else
      match r.locals with
      | some es =>
        match s.exchange i l.locals es with
        | .ok s' => s'.amendApply i r
        | .error st => (s, .plain st)
      | none => s.amendApply i r

/-- AMEND, judged by its ranks (R34). -/
def State.amend (s : State) (r : AmendReq) : State × Reply :=
  s.namedExpecting r.tag r.expected fun i l =>
    match s.amendFails r l with
    | some st => (s, .plain st)
    | none => s.amendRun i l r

/-- AMEND (R34). -/
def execAmend (t : Nat) (body : Body AmendReq) (s : State) : Host.Outcome State Fault Refusal :=
  ((s.advance t).request .amend body State.amend).done

/-! ### RETIRE -/

/-- The slot becomes empty, its counter keeping its value (R22). -/
def State.emptyOut (s : State) (i : Nat) : State := s.setSlot i { s.slot i with load := none }

/-- The removal of a record (R41). -/
def State.removeLoad (s : State) (i : Nat) : State :=
  ((s.releaseOutlets (s.localsOf i)).dropVictim (.slot i)).emptyOut i

/-- The refusal of a RETIRE (R40). A pinned record in ADMITTING or RETIRING is refused PINNED by the rank order,
where R33 says WRONG_STATE: the model's choice (log 33). -/
def State.retireFails (s : State) (l : Load) : Option Status :=
  if l.pinned then some .pinned
  else if l.awaiting then some .busy
  else if l.state != .unpowered && l.state != .shed && l.state != .quarantined then some .wrongState
  else if l.outlets.any fun n => !(s.outlet n).settledOpen then some .wrongState
  else none

/-- A passed RETIRE is carried out (R41, R42). Queue entries that a QUARANTINED load still has stay in RETIRING, and are
withdrawn by the release at the removal (R124, R129): the model's reading against R33 and R42 (log 34). -/
def State.retireRun (s : State) (i : Nat) (l : Load) : State × Reply :=
  if l.peers.isEmpty then (s.removeLoad i).ok
  else if s.linkUp then (((s.unshedLoad i).moveTo i .retiring).sendUnbind i .retire, .held i)
  else (s.removeLoad i, .plain .peerDown)

/-- RETIRE, judged by its ranks (R40). -/
def State.retire (s : State) (r : RetireReq) : State × Reply :=
  s.namedExpecting r.tag r.expected fun i l =>
    match s.retireFails l with
    | some st => (s, .plain st)
    | none => s.retireRun i l

/-- RETIRE (R40). -/
def execRetire (t : Nat) (body : Body RetireReq) (s : State) : Host.Outcome State Fault Refusal :=
  ((s.advance t).request .retire body State.retire).done

/-! ### LOOKUP, LIST and NOTICES -/

/-- LOOKUP of a tag (R43). -/
def State.lookup (s : State) (tag : Tag) : State × Reply :=
  s.named tag fun i l => (s, .answer .done (s.lookupBody i l))

/-- LOOKUP (R43). -/
def execLookup (t : Nat) (body : Body Tag) (s : State) : Host.Outcome State Fault Refusal :=
  ((s.advance t).request .lookup body State.lookup).done

/-- LIST from a slot (R44). -/
def State.list (s : State) (first : Nat) : State × Reply :=
  if first < 40 then (s, .answer .done (s.listBody first)) else (s, .plain .badRequest)

/-- LIST (R44). -/
def execList (t : Nat) (body : Body Nat) (s : State) : Host.Outcome State Fault Refusal :=
  ((s.advance t).request .list body State.list).done

/-- NOTICES: the sets of the loads returned are emptied in the step of the answer (R67). -/
def State.readNotices (s : State) (_ : Unit) : State × Reply :=
  ((s.noticed.take 8).foldl (fun s i => s.modLoad i fun l => { l with notices := 0 }) s,
   .answer .done s.noticesBody)

/-- NOTICES (R67). -/
def execNotices (t : Nat) (body : Body Unit) (s : State) : Host.Outcome State Fault Refusal :=
  ((s.advance t).request .notices body State.readNotices).done

/-! ### PIN and ALIAS -/

/-- Every gate whose branch's head the load owns is to be judged (R121). -/
def State.headsDue (s : State) (i : Nat) : State :=
  branchNumbers.foldl
    (fun s b =>
      match s.head b with
      | some e => if e.owner = .bound i then s.gateDue b else s
      | none => s) s

/-- PIN of a load (R45). -/
def State.pin (s : State) (tag : Tag) : State × Reply :=
  s.named tag fun i l =>
    if l.state = .cycling then (s, .plain .wrongState)
    else if l.pinned then s.ok
    else ((s.setLoad i { l with pinned := true }).headsDue i).ok

/-- PIN (R45). -/
def execPin (t : Nat) (body : Body Tag) (s : State) : Host.Outcome State Fault Refusal :=
  ((s.advance t).request .pin body State.pin).done

/-- ALIAS add, judged by its ranks (R46). -/
def State.addAlias (s : State) (r : TagPair) : State × Reply :=
  s.named r.tag fun i l =>
    if r.other = 0 then (s, .plain .badRequest)
    else if l.state = .retiring then (s, .plain .wrongState)
    else if (s.resolve r.other).isSome then (s, .plain .tagInUse)
    else if Config.aliasMax ≤ s.aliasCount ∨ 3 ≤ l.aliases.length then (s, .plain .tableFull)
    else (s.setLoad i { l with aliases := l.aliases ++ [r.other] }).ok

/-- ALIAS add (R46). -/
def execAliasAdd (t : Nat) (body : Body TagPair) (s : State) : Host.Outcome State Fault Refusal :=
  ((s.advance t).request .aliases body State.addAlias).done

/-- ALIAS remove (R47). -/
def State.removeAlias (s : State) (r : TagPair) : State × Reply :=
  s.named r.tag fun i l =>
    if l.state = .retiring then (s, .plain .wrongState)
    else if !l.aliases.contains r.other then (s, .plain .unknownTag)
    else (s.setLoad i { l with aliases := l.aliases.filter fun a => a != r.other }).ok

/-- ALIAS remove (R47). -/
def execAliasRemove (t : Nat) (body : Body TagPair) (s : State) : Host.Outcome State Fault Refusal :=
  ((s.advance t).request .aliases body State.removeAlias).done

end Sys2Proof.Machine
end

