-- ==== Sys2Proof/Machine/Home.lean ====
section
/-! DEFINITION. The home role of the Partner Link Controller: how orders end (R32, R36, R42, R53, R97, R104,
R186), the answers of the partner (R187), presence and its changes (R183, R184, R188, R64). -/

namespace Sys2Proof.Machine

/-! ### The end of an order -/

/-- How an order ends, other than by supersession or removal (R186). -/
inductive OrderEnd where
  | bound
  | refused (r : RefuseReason)
  | unbound
  | dropped
  | dropRefused
  | raised
  | raiseFailed (outlet : Nat)
  | expired
  | linkLost
deriving DecidableEq, Repr

/-- The kind of order that an answer answers (R187); a deadline and the link's loss end any kind. -/
def OrderEnd.ends : OrderEnd → OrderKind → Bool
  | .bound, .bind => true
  | .refused _, .bind => true
  | .unbound, .unbind => true
  | .dropped, .drop => true
  | .dropRefused, .drop => true
  | .raised, .raise => true
  | .raiseFailed _, .raise => true
  | .expired, _ => true
  | .linkLost, _ => true
  | _, _ => false

/-- The end of the BIND of an admission (R32). -/
def State.endAdmission (s : State) (i : Nat) : OrderEnd → State
  | .bound => (s.moveTo i .unpowered).endHeld .admitLoad i .done .nothing
  | .refused r => (s.removeLoad i).endHeld .admitLoad i .peerRefused (.reason r)
  | _ => (s.removeLoad i).endHeld .admitLoad i .peerNoAnswer .nothing

/-- The end of a peer-list sequence: the record returns to UNPOWERED, the revision increments once if the
peer list then differs from the list at the start, and the held answer is given (R36). -/
def State.endAmend (s : State) (i : Nat) (q : AmendSeq) (now : List OutletRes) (status : Status)
    (body : AnswerBody) : State :=
  let s := (s.moveTo i .unpowered).modLoad i fun l => { l with peers := now, amendSeq := none }
  (if sameEntries now q.before then s else s.bumpRevision i).endHeld .amend i status body

/-- UNBOUND within a peer-list sequence: it ends, or goes on with a BIND (R36, steps 1 to 4). -/
def State.amendUnbound (s : State) (i : Nat) (q : AmendSeq) : State :=
  if q.carried.isEmpty then s.endAmend i q [] .done .nothing
  else if !s.linkUp then s.endAmend i q [] .peerDown .nothing
  else ((s.modLoad i fun l => { l with peers := [] }).moveTo i .admitting).sendBind i .amendment q.carried

/-- The end of an order of a peer-list sequence (R36). -/
def State.endAmendment (s : State) (i : Nat) (e : OrderEnd) : State :=
  match s.load i with
  | some l =>
    match l.amendSeq with
    | some q =>
      match e with
      | .unbound => s.amendUnbound i q
      | .bound => s.endAmend i q q.carried .done .nothing
      | .refused r => s.endAmend i q [] .peerRefused (.reason r)
      | _ => s.endAmend i q [] .peerNoAnswer .nothing
    | none => s
  | none => s

/-- The end of the UNBIND of a RETIRE: the record is removed whatever the end (R42). -/
def State.endRetire (s : State) (i : Nat) (e : OrderEnd) : State :=
  (s.removeLoad i).endHeld .retire i (if e = .unbound then .done else .peerNoAnswer) .nothing

/-- The notice that the end of a start's or a stop's order sets (R53). -/
def endNotice : OrderEnd → Option Notice
  | .raised => none
  | .dropped => none
  | .raiseFailed n => if n = 0 then some .peerNoAnswer else some .outletFault
  | _ => some .peerNoAnswer

/-- The end of a DROP or RAISE sent by a start, a stop or a quarantine, or outliving its cycle: its notice,
and the completion of a start or a stop judged (R53, R54, R58). -/
def State.endOwn (s : State) (i : Nat) (e : OrderEnd) : State :=
  let s := match endNotice e with
    | some k => s.notice i k
    | none => s
  (s.judgeStart i).judgeStop i

/-- The end of a cycle's DROP (R97). -/
def State.endCycleDrop (s : State) (i : Nat) : OrderEnd → State
  | .dropped => s.dropAnswered i
  | .dropRefused => s.dropFailed i .peerRefused
  | .expired => (s.notice i .peerNoAnswer).dropFailed i .peerNoAnswer
  | .linkLost => s.dropFailed i .peerLost
  | _ => s

/-- The end of a cycle's RAISE (R104). -/
def State.endCycleRaise (s : State) (i : Nat) : OrderEnd → State
  | .raised => s.raiseAnswered i
  | .raiseFailed n =>
    if n = 0 then s.raiseFailedBy i .peerRefused else (s.notice i .outletFault).raiseFailedBy i .outletFault
  | .expired => (s.notice i .peerNoAnswer).raiseFailedBy i .peerNoAnswer
  | .linkLost => s.raiseFailedBy i .peerLost
  | _ => s

/-- An order ends: its record is discarded, and the end is handed to the rule of its sender (R186). -/
def State.endOrder (s : State) (i : Nat) (o : OrderRec) (e : OrderEnd) : State :=
  let s := s.modLoad i fun l => { l with order := none }
  match o.sender with
  | .admission => s.endAdmission i e
  | .amendment => s.endAmendment i e
  | .retire => s.endRetire i e
  | .cycle =>
    match o.kind with
    | .drop => s.endCycleDrop i e
    | .raise => s.endCycleRaise i e
    | _ => s
  | _ => s.endOwn i e

/-- The outstanding order of the load in a slot (R185). -/
def State.orderOf (s : State) (i : Nat) : Option OrderRec :=
  match s.load i with
  | some l => l.order
  | none => none

/-- An answer taken in the home role: it ends the order of the record with its home tag whose kind and number
it matches, and is discarded otherwise (R187). -/
def State.takeAnswer (s : State) (tag : Tag) (number : Nat) (e : OrderEnd) : State :=
  match s.slotOfTag tag with
  | some i =>
    match s.orderOf i with
    | some o => if o.number = number && e.ends o.kind then s.endOrder i o e else s
    | none => s
  | none => s

/-- A received order or answer is taken only with its fields in range and while the link is UP; otherwise it
is dropped and changes no state (R181). -/
def State.taken (s : State) (f : LinkFrame) (act : State → State) : State :=
  if f.fieldsOk && s.linkUp then act s else s

/-- The deadline of the load's outstanding order expires (R186). -/
def State.expireOrder (s : State) (i : Nat) : State :=
  match s.orderOf i with
  | some o => if o.deadline ≤ s.now then s.endOrder i o .expired else s
  | none => s

/-- ORDER_DEADLINE_EXPIRY (R186). -/
def execOrderDeadlineExpiry (t slot : Nat) (s : State) : Host.Outcome State Fault Refusal :=
  ((s.advance t).expireOrder slot).done

/-- BOUND (R187). -/
def execBound (t : Nat) (tag : Tag) (order : Nat) (s : State) : Host.Outcome State Fault Refusal :=
  ((s.advance t).taken (.bound tag order) fun s => s.takeAnswer tag order .bound).done

/-- REFUSED (R187). -/
def execRefused (t : Nat) (tag : Tag) (order : Nat) (reason : RefuseReason) (s : State) :
    Host.Outcome State Fault Refusal :=
  ((s.advance t).taken (.refused tag order reason) fun s => s.takeAnswer tag order (.refused reason)).done

/-- UNBOUND (R187). -/
def execUnbound (t : Nat) (tag : Tag) (order : Nat) (s : State) : Host.Outcome State Fault Refusal :=
  ((s.advance t).taken (.unbound tag order) fun s => s.takeAnswer tag order .unbound).done

/-- DROPPED (R187). -/
def execDropped (t : Nat) (tag : Tag) (order : Nat) (s : State) : Host.Outcome State Fault Refusal :=
  ((s.advance t).taken (.dropped tag order) fun s => s.takeAnswer tag order .dropped).done

/-- DROP_REFUSED (R187). -/
def execDropRefused (t : Nat) (tag : Tag) (order : Nat) (s : State) : Host.Outcome State Fault Refusal :=
  ((s.advance t).taken (.dropRefused tag order) fun s => s.takeAnswer tag order .dropRefused).done

/-- RAISED (R187). -/
def execRaised (t : Nat) (tag : Tag) (order : Nat) (s : State) : Host.Outcome State Fault Refusal :=
  ((s.advance t).taken (.raised tag order) fun s => s.takeAnswer tag order .raised).done

/-- RAISE_FAILED (R187). -/
def execRaiseFailed (t : Nat) (tag : Tag) (order outlet : Nat) (s : State) : Host.Outcome State Fault Refusal :=
  ((s.advance t).taken (.raiseFailed tag order outlet) fun s =>
    s.takeAnswer tag order (.raiseFailed outlet)).done

/-! ### Presence -/

/-- The order of the load in a slot, if any, ends as lost (R188). -/
def State.loseOrder (s : State) (i : Nat) : State :=
  match s.orderOf i with
  | some o => s.endOrder i o .linkLost
  | none => s

/-- Whether a frame is a HELLO. -/
def LinkFrame.isHello : LinkFrame → Bool
  | .hello _ _ _ => true
  | _ => false

/-- The link leaves UP (R188): orders end in ascending slot order, order and answer frames leave the
transmit list, and pending answers are discarded. A frame stands on the list until LINK_FRAME_SENT, so one already
being sent is removed with the others: the model's choice (log 43). -/
def State.linkLeaves (s : State) : State :=
  let s := slotNumbers.foldl State.loseOrder s
  { s with link := { s.link with tx := s.link.tx.filter fun f => LinkFrame.isHello f, answers := [] } }

/-- A STRANDED load at the link's entry into UP (R64). -/
def State.unstrand (s : State) (i : Nat) : State :=
  match s.load i with
  | some l =>
    if l.state = .stranded then
      if l.pinned || !l.cyclePolicy.auto then s.enterOn i .hung false
      else if s.failedLocal i then s.quarantine i .outletFailed
      else s.enterCycling i .hang
    else s
  | none => s

/-- The presence state moves; every change raises PEER, and entering or leaving UP has its effects (R183,
R188, R64). -/
def State.movePresence (s : State) (p : Presence) : State :=
  let old := s.link.presence
  if old = p then s
  else
    let s := ({ s with link := { s.link with presence := p } } : State).raiseFlag .peer
    if old = .up then s.linkLeaves
    else if p = .up then slotNumbers.foldl State.unstrand s
    else s

/-- Whether an announced side is opposite to the link's side, that of the last HELLO made (R14, R182). -/
def State.opposite (s : State) (side : Side) : Bool := side != .solo && side != s.link.side

/-- The state that a HELLO moves the presence to (R183). -/
def helloMove (p : Presence) (opposite : Bool) : Presence :=
  if opposite then
    match p with
    | .down => .joining
    | .joining => .up
    | .up => .up
    | .mismatch => .joining
  else .mismatch

/-- A good HELLO is taken (R182 to R184): it replaces the announcement, and moves no state while the link's
side is SOLO. -/
def State.takeHello (s : State) (side : Side) (count rating : Nat) : State :=
  let s : State :=
    { s with link := { s.link with announce := some { side := side, count := count, rating := rating, moment := s.now } } }
  if s.link.side = .solo then s
  else
    ({ s with link := { s.link with silence := some (s.now + Config.silence) } } : State).movePresence
      (helloMove s.link.presence (s.opposite side))

/-- HELLO (R183). -/
def execHello (t : Nat) (side : Side) (count rating : Nat) (s : State) : Host.Outcome State Fault Refusal :=
  let s := s.advance t
  State.done (if (LinkFrame.hello side count rating).fieldsOk then s.takeHello side count rating else s)

/-- The silence timer expires (R183). -/
def State.silenceExpiry (s : State) : State :=
  if s.due s.link.silence then
    ({ s with link := { s.link with silence := none } } : State).movePresence .down
  else s

/-- SILENCE_EXPIRY (R183). -/
def execSilenceExpiry (t : Nat) (s : State) : Host.Outcome State Fault Refusal :=
  ((s.advance t).silenceExpiry).done

/-- The state is judged again at the HELLO made after a change of the side in force, which that HELLO has made
the link's side (R14, R184). -/
def State.judgeSide (s : State) : State :=
  if s.link.side = .solo then
    ({ s with link := { s.link with silence := none } } : State).movePresence .down
  else
    match s.link.announce with
    | some a =>
      let up := s.link.presence = .joining || s.link.presence = .up
      if up && !s.opposite a.side then s.movePresence .mismatch
      else if s.link.presence = .mismatch && s.opposite a.side && s.now ≤ a.moment + Config.sec then
        s.movePresence .joining
      else s
    | none => s

/-- A HELLO is made, with the side, branch count and rating in force (R182). -/
def State.makeHello (s : State) : State := s.transmit (.hello s.side s.branchCount s.rating)

/-- The HELLO of every 250 ms (R182), with the judgement of a changed side (R184). -/
def State.helloSend (s : State) : State :=
  if s.link.nextHello ≤ s.now then
    let changed := s.link.side != s.side
    let s : State :=
      { s with link := { s.link with nextHello := s.link.nextHello + Config.helloPeriod, side := s.side } }
    if changed then s.makeHello.judgeSide else s.makeHello
  else s

/-- HELLO_SEND (R182). -/
def execHelloSend (t : Nat) (s : State) : Host.Outcome State Fault Refusal := ((s.advance t).helloSend).done

/-- LINK_FRAME_DROPPED: a frame that is not taken changes no state (R181). -/
def execLinkFrameDropped (t : Nat) (_bytes : List Byte) (s : State) : Host.Outcome State Fault Refusal :=
  (s.advance t).done

/-- LINK_FRAME_SENT: the first frame of the transmit list has been sent whole and leaves it (R181). -/
def execLinkFrameSent (t : Nat) (s : State) : Host.Outcome State Fault Refusal :=
  let s := s.advance t
  State.done { s with link := { s.link with tx := s.link.tx.drop 1 } }

end Sys2Proof.Machine
end

