-- ==== Sys2Proof/Machine/Image.lean ====
section
/-! DEFINITION. The Image Store: SAVE and its end (R209 to R213), and COLD_RESET, which restores the part from
the image (R16 to R18, R48, R214). -/

namespace Sys2Proof.Machine

/-! ### Saving -/

/-- The image entry of the record in a slot: none while it is ADMITTING or RETIRING (R213). -/
def State.imageRecord (s : State) (i : Nat) : Option ImageRecord :=
  match s.load i with
  | some l =>
    if l.state = .admitting || l.state = .retiring then none
    else some
      { slot := i, tag := l.tag, aliases := l.aliases, locals := l.locals, peers := l.peers, prio := l.prio,
        pop := l.pop, watchPolicy := l.watchPolicy, cyclePolicy := l.cyclePolicy, wantedOn := l.wantedOn }
  | none => none

/-- The image entry of a LENT outlet whose releasing flag is clear (R213). -/
def State.imageLent (s : State) (n : Nat) : Option ImageLent :=
  let o := s.outlet n
  match o.owner with
  | .lent t _ p => if o.releasing then none else some { outlet := n, tag := t, prio := p, res := o.reservation }
  | _ => none

/-- The snapshot of the part as it stands: records in ascending slot order, lent entries in ascending outlet
order (R213). -/
def State.snapshot (s : State) : Snapshot :=
  { settings := s.settings, records := slotNumbers.filterMap s.imageRecord,
    lent := outletNumbers.filterMap s.imageLent }

/-- SAVE is accepted: the snapshot is taken, and the completion mark of the stored image is erased (R210,
R211). -/
def State.startSave (s : State) : State :=
  { s with store := { s.store with writing := some s.snapshot, valid := false, mark := false } }

/-- SAVE, refused BUSY while the store is WRITING (R210). -/
def State.save (s : State) (_ : Unit) : State × Reply :=
  if s.store.writing.isSome then (s, .plain .busy) else s.startSave.ok

/-- SAVE (R210). -/
def execSave (t : Nat) (body : Body Unit) (s : State) : Host.Outcome State Fault Refusal :=
  ((s.advance t).request .save body State.save).done

/-- The end of a save (R211, R212): the image written and marked, or found to differ at the read-back. -/
def State.endSave (s : State) (marked : Bool) : State :=
  match s.store.writing with
  | none => s
  | some snap =>
    (if marked then
      { s with store := { writing := none, lastSave := .done, valid := true, content := some snap, mark := true,
                          checkOk := true } }
    else
      { s with store := { s.store with writing := none, lastSave := .failed, valid := false, mark := false,
                                       checkOk := false } }).raiseFlag .saveDone

/-- SAVE_END (R212). -/
def execSaveEnd (t : Nat) (marked : Bool) (s : State) : Host.Outcome State Fault Refusal :=
  ((s.advance t).endSave marked).done

/-! ### Restoring the settings (R16) -/

/-- The valid image, if there is one: its completion mark present and its check value matching (R214). -/
def Store.image (m : Store) : Option Snapshot := if m.mark && m.checkOk then m.content else none

/-- A ceiling outside its range takes its default (R16). -/
def fixCeiling (rating v : Nat) : Nat := if within rating (rating * 10) v then v else Config.defaultCeiling rating
/-- A threshold outside the ceiling-to-rating range takes its default (R16). -/
def fixThreshold (rating ceiling v : Nat) : Nat :=
  if within ceiling (rating * 10) v then v else Config.defaultThreshold rating

/-- The per-branch settings and the hysteresis checked against the rating in force, in the order of R16. -/
def fixSettings (g : Settings) (rating : Nat) : Settings :=
  let ceiling := g.ceiling.map (fixCeiling rating)
  let threshold := Vector.zipWith (fixThreshold rating) ceiling g.threshold
  { g with
    ceiling := ceiling
    threshold := threshold
    hysteresis := if threshold.toList.any fun v => v ≤ g.hysteresis then 10 else g.hysteresis }

/-- The settings rebuilt at a cold reset, from a valid image or from the defaults (R16). -/
def rebuilt (strap : Straps) (image : Option Snapshot) : Settings :=
  let g := match image with
    | some m => m.settings
    | none => Settings.defaults (Config.sizeRating strap.size)
  fixSettings g (g.ratingOvr.getD (Config.sizeRating strap.size))

/-- Whether the check of the per-branch settings and the hysteresis replaces one of them, be its default equal
to the value replaced (R16, step 3). -/
def replaces (g : Settings) (rating : Nat) : Bool :=
  let ceiling := g.ceiling.map (fixCeiling rating)
  g.ceiling.toList.any (fun v => !within rating (rating * 10) v) ||
    (Vector.zipWith (fun c v => !within c (rating * 10) v) ceiling g.threshold).toList.any id ||
    (Vector.zipWith (fixThreshold rating) ceiling g.threshold).toList.any fun v => v ≤ g.hysteresis

/-- Whether the rebuilding replaced a setting (R16). -/
def replaced (strap : Straps) (image : Option Snapshot) : Bool :=
  match image with
  | some m => replaces m.settings (m.settings.ratingOvr.getD (Config.sizeRating strap.size))
  | none => false

/-! ### Restoring lent entries and records (R18, R48) -/

/-- A lent entry of the image is claimed, or dropped with CONFIG raised (R18). -/
def State.restoreLentEntry (s : State) (e : ImageLent) : State :=
  let claim : List OutletRes := [{ outlet := e.outlet, res := e.res }]
  match s.claimFails claim true with
  | some _ => s.raiseFlag .config
  | none => s.take claim (.lent e.tag 0 e.prio)

/-- The checks of a record of the image, but for its claim (R48, 1 to 3). -/
def State.recordOk (s : State) (r : ImageRecord) : Bool :=
  r.slot < 40 && r.tag != 0 && (s.resolve r.tag).isNone &&
    (r.aliases.all fun a => a != 0 && a != r.tag && (s.resolve a).isNone) && distinct r.aliases &&
    s.aliasCount + r.aliases.length ≤ Config.aliasMax && r.aliases.length ≤ 3 &&
    localListOk s.rating r.locals && peerListOk r.peers && r.prio ≤ 3 &&
    (match r.watchPolicy with | some w => watchPolicyOk w | none => true) && cyclePolicyOk r.cyclePolicy

/-- A record as the image load places it (R48). -/
def ImageRecord.toLoad (r : ImageRecord) : Load :=
  { tag := r.tag, revision := 1, locals := r.locals, peers := r.peers, prio := r.prio, pop := r.pop,
    wantedOn := r.wantedOn, watchPolicy := r.watchPolicy, cyclePolicy := r.cyclePolicy, aliases := r.aliases,
    pinned := false, state := .unpowered, qReason := none, strikes := 0, notices := 0, staged := none,
    postCycleBoot := false, awaiting := true, lastOutcome := none, powerTime := none, startRestored := false,
    watch := Watch.stopped, order := none, amendSeq := none }

/-- A record of the image is placed, or dropped with CONFIG raised (R48). -/
def State.restoreRecord (s : State) (r : ImageRecord) : State :=
  if s.recordOk r && (s.claimFails r.locals true).isNone then
    (s.take r.locals (.bound r.slot)).setSlot r.slot { counter := 1, load := some r.toLoad }
  else s.raiseFlag .config

/-! ### COLD_RESET -/

/-- The part at step 2 of the restoration steps (R17): rebuilt settings over the straps read, and every block
as after a cold reset. The timebase, PRST_N, MISO, the measures of the outlet-side voltages and the
nonvolatile image are not the reset's to change (log 5). A save that the reset ends leaves SAVE_DONE lowered with the
other flags: the model's choice (log 48). -/
def State.wiped (s : State) (strap : Straps) : State :=
  let image := s.store.image
  let c := State.cold strap
  { c with
    now := s.now
    restoredAt := s.now
    settings := rebuilt strap image
    outlets := s.outlets.map fun o => { Outlet.cold with volts := o.volts }
    dripStart := s.now
    meter := { c.meter with start := s.now }
    patrol := { pointer := 1, next := s.now + Config.patrolPeriod }
    link := { c.link with side := (rebuilt strap image).sideOvr.getD strap.side
                          nextHello := s.now + Config.helloPeriod }
    port := { state := .idle, prstLow := s.port.prstLow, miso := s.port.miso }
    flags := { Flags.none with config := image.isNone || replaced strap image }
    store := { s.store with writing := none, lastSave := .none, valid := image.isSome }
    pending := s.pending }

/-- The restoration steps (R17), the first HELLO (R182), and the external shed input read at their end
(R175). -/
def State.coldReset (s : State) (strap : Straps) (shedLevel : Bool) : State :=
  let t := s.wiped strap
  let t := match s.store.image with
    | some m => m.records.foldl State.restoreRecord (m.lent.foldl State.restoreLentEntry t)
    | none => t
  let t := t.makeHello
  if shedLevel then t.extAssert else t

/-- COLD_RESET (R17). -/
def execColdReset (t size : Nat) (side : Side) (shedLevel : Bool) (s : State) : Host.Outcome State Fault Refusal :=
  ((s.advance t).coldReset { size := size, side := side } shedLevel).done

end Sys2Proof.Machine
end

