-- ==== Sys2Proof/Machine/Lent.lean ====
section
/-! DEFINITION. The partner role: BIND, UNBIND, DROP and RAISE taken (R190 to R193), the expiry of hold
deadlines (R195) and RECLAIM (R197). -/

namespace Sys2Proof.Machine

/-- A BIND is judged and answered (R190); it supersedes the pending answer of its home tag (R189). -/
def State.takeBind (s : State) (tag : Tag) (order : Nat) (entries : List OutletRes) (prio : Nat) : State :=
  let s := s.dropAnswer tag
  if !(s.lending tag).isEmpty then s.transmit (.refused tag order .outletTaken)
  else match s.claimFails entries false with
    | some f => s.transmit (.refused tag order f.reason)
    | none => (s.take entries (.lent tag order prio)).transmit (.bound tag order)

/-- BIND (R190). -/
def execBind (t : Nat) (tag : Tag) (order : Nat) (entries : List OutletRes) (prio : Nat) (s : State) :
    Host.Outcome State Fault Refusal :=
  ((s.advance t).taken (.bind tag order entries prio) fun s => s.takeBind tag order entries prio).done

/-- An UNBIND acts by the lending of its home tag (R191). -/
def State.takeUnbind (s : State) (tag : Tag) (order : Nat) : State :=
  let ns := s.lending tag
  if ns.isEmpty then s.transmit (.unbound tag order)
  else
    let s := (s.setHolds ns none).unshedLent tag
    (s.putAnswer { tag := tag, kind := .unbound, order := order, awaited := ns, reopen := [] }).releaseOutlets ns

/-- UNBIND (R191). -/
def execUnbind (t : Nat) (tag : Tag) (order : Nat) (s : State) : Host.Outcome State Fault Refusal :=
  ((s.advance t).taken (.unbind tag order) fun s => s.takeUnbind tag order).done

/-- The drop hold of a DROP taken now (R192, step 4). -/
def State.holdOf (s : State) (hold : Nat) : DropHold :=
  { deadline := if hold = 0 then none else some (s.now + hold * Config.sec) }

/-- A DROP acts on the lending of its home tag (R192). -/
def State.takeDrop (s : State) (tag : Tag) (order hold : Nat) : State :=
  let ns := s.lendingHeld tag
  if ns.isEmpty || ns.any fun n => !(s.outlet n).adopted then s.transmit (.dropRefused tag order)
  else
    let s := ((s.dropAnswer tag).unshedLent tag).clearLineLost ns
    let s := ns.foldl State.openRequest s
    let s := s.setHolds ns (some (s.holdOf hold))
    let left := ns.filter fun n => !(s.outlet n).settledOpen
    if left.isEmpty then s.transmit (.dropped tag order)
    else s.putAnswer { tag := tag, kind := .dropped, order := order, awaited := left, reopen := [] }

/-- DROP (R192). -/
def execDrop (t : Nat) (tag : Tag) (order hold : Nat) (s : State) : Host.Outcome State Fault Refusal :=
  ((s.advance t).taken (.drop tag order hold) fun s => s.takeDrop tag order hold).done

/-- What a RAISE finds of an outlet (R193, step 4). -/
inductive RaiseFinding where | failing | closed | awaited | inserted | lost
deriving DecidableEq, Repr

/-- The first row of R193's table that matches an outlet. -/
def State.raiseFinding (s : State) (n : Nat) : RaiseFinding :=
  let o := s.outlet n
  if !o.adopted || o.isFailed then .failing
  else if o.isClosed && !o.busy then .closed
  else if o.isClosing then .awaited
  else if s.hasEntry n then .awaited
  else if s.phaseLost (s.phaseOf n) then .lost
  else .inserted

/-- One outlet of a RAISE: an outlet to be closed is inserted, one on a lost phase gets the line-lost marker
(R193, R117). -/
def State.raiseOutlet (s : State) (n : Nat) : State :=
  match s.raiseFinding n with
  | .inserted => s.insertLent .peerRaise n
  | .lost => s.insertLent .peerRaise n
  | _ => s

/-- A RAISE acts on the lending of its home tag (R193); it supersedes the pending answer of its home tag
(R189). -/
def State.takeRaise (s : State) (tag : Tag) (order : Nat) : State :=
  let s := s.dropAnswer tag
  let ns := s.lendingHeld tag
  if ns.isEmpty then s.transmit (.raiseFailed tag order 0)
  else
    let s := (s.setHolds (s.lending tag) none).unshedLent tag
    let failing := ns.filter fun n => s.raiseFinding n = .failing || s.raiseFinding n = .lost
    let awaited := ns.filter fun n => s.raiseFinding n = .awaited || s.raiseFinding n = .inserted
    let reopen := ns.filter fun n => (s.outlet n).isClosing && (s.outlet n).pendingOpen
    let s := ns.foldl State.raiseOutlet s
    match failing with
    | n :: _ => s.transmit (.raiseFailed tag order n)
    | [] =>
      if awaited.isEmpty then s.transmit (.raised tag order)
      else s.putAnswer { tag := tag, kind := .raised, order := order, awaited := awaited, reopen := reopen }

/-- RAISE (R193). -/
def execRaise (t : Nat) (tag : Tag) (order : Nat) (s : State) : Host.Outcome State Fault Refusal :=
  ((s.advance t).taken (.raise tag order) fun s => s.takeRaise tag order).done

/-- Whether an outlet's hold deadline has expired. -/
def State.holdDue (s : State) (n : Nat) : Bool :=
  match (s.outlet n).dropHold with
  | some h => s.due h.deadline
  | none => false

/-- The expiry of hold deadlines: the outlets lose their drop holds and are inserted (R195). -/
def State.holdExpiry (s : State) : State :=
  let ns := outletNumbers.filter s.holdDue
  ns.foldl (State.insertLent · .peerRaise ·) (s.setHolds ns none)

/-- HOLD_DEADLINE_EXPIRY (R195). -/
def execHoldDeadlineExpiry (t : Nat) (s : State) : Host.Outcome State Fault Refusal :=
  ((s.advance t).holdExpiry).done

/-! ### RECLAIM -/

/-- The outlets of one home tag are reclaimed (R197). -/
def State.reclaimGroup (s : State) (ns : List Nat) (tag : Tag) : State :=
  let mine := ns.filter fun n => (s.outlet n).lentTo tag && !(s.outlet n).releasing
  (mine.foldl State.leaveShed (s.setHolds mine none)).releaseOutlets mine

/-- Whether an outlet is BOUND. -/
def Outlet.isBound (o : Outlet) : Bool :=
  match o.owner with
  | .bound _ => true
  | _ => false

/-- RECLAIM of outlets, by its ranks; the groups in ascending home tag (R197). -/
def State.reclaim (s : State) (ns : List Nat) : State × Reply :=
  if !within 1 8 ns.length || !distinct ns || ns.any (fun n => !s.inUse n) then (s, .plain .badRequest)
  else if s.anyOutlet ns Outlet.isBound then (s, .plain .wrongState)
  else
    let tags := (ns.filterMap s.homeTag).foldl (fun l t => placeTag t l) []
    (tags.foldl (fun s t => s.reclaimGroup ns t) s).ok

/-- RECLAIM (R197). -/
def execReclaim (t : Nat) (body : Body (List Nat)) (s : State) : Host.Outcome State Fault Refusal :=
  ((s.advance t).request .reclaim body State.reclaim).done

end Sys2Proof.Machine
end

