-- ==== Sys2Proof/Machine/Metering.lean ====
section
/-! DEFINITION. The Metering Engine: window ends and their figures (R152 to R155), half-cycles and line lock
(R156), line state (R158 to R160), and the events that reach gates and the external shed (R121, R175,
R176). -/

namespace Sys2Proof.Machine

/-! ### Figures of a window -/

/-- The reading of an outlet; an outlet not listed reads 0 (log 7). -/
def readingOf (r : WindowReading) (n : Nat) : OutletReading :=
  (r.outlets.find? fun o => o.outlet = n).getD { outlet := n, current := 0, power := 0, offset := 0 }

/-- Real power in its range: a negative mean gives 0 (R153). -/
def clampPower (p : Int) : Nat := min Config.figureMax p.toNat

/-- The energy of a window is added to the residue, and its whole centiwatt-hours to the total (R154). -/
def Outlet.accumulate (o : Outlet) (lengthMs : Nat) : Outlet :=
  let sum := o.residue + o.power * lengthMs
  { o with energy := (o.energy + sum / Config.wattMsPerCwh) % (Config.energyMax + 1),
           residue := sum % Config.wattMsPerCwh }

/-- The current crossing offset in its range: absent at 10 cA or below, or where the phase was not LOCKED
throughout the window (R153). -/
def offsetOf (line : Line) (current offset : Nat) : Option Nat :=
  if current ≤ 10 || !line.winLocked then none else some (min line.half offset)

/-- The figures of one outlet (R153, R154). -/
def State.formOutlet (s : State) (r : WindowReading) (lengthMs n : Nat) : State :=
  let m := readingOf r n
  let current := min Config.figureMax m.current
  let line := s.line (s.phaseOf n)
  s.modOutlet n fun o =>
    Outlet.accumulate
      { o with current := current, power := clampPower m.power, offset := offsetOf line current m.offset } lengthMs

/-- The branch current: the sum of the RMS currents of the branch's outlets in use (R155). -/
def State.sumBranch (s : State) (b : Nat) : Nat :=
  (s.outletsInUse.filter fun n => branchOf n = b).foldl (fun acc n => acc + (s.outlet n).current) 0

/-- The branch current of a branch in use is formed (R155). -/
def State.formBranch (s : State) (b : Nat) : State :=
  { s with meter := { s.meter with branch := vset s.meter.branch (index1 b) (s.sumBranch b) } }

/-- The RMS voltage a reading gives a phase. -/
def readingVolts (r : WindowReading) : Phase → Nat
  | .l1 => r.volts1
  | .l2 => r.volts2
  | .l3 => r.volts3

/-- The frequency in 0.01 Hz: the reciprocal of twice the mean duration of the in-range half-cycles that
ended in the window, 0 if none did (R155). -/
def Line.frequency (l : Line) : Nat :=
  if l.winCount = 0 then 0 else Config.quotient .frequency (5000000 * l.winCount) l.winSum

/-- The figures of a phase, and the start of the next window on it (R153, R155). -/
def State.formPhase (s : State) (r : WindowReading) (p : Phase) : State :=
  let current := (s.branchesOn p).foldl (fun acc b => acc + s.branchCurrent b) 0
  s.modLine p fun l =>
    { l with volts := readingVolts r p, freq := l.frequency, current := current, winSum := 0, winCount := 0,
             winLocked := l.locked }

/-- Every figure of the window just ended is formed, and the next window starts (R152 to R155). -/
def State.formWindow (s : State) (r : WindowReading) : State :=
  let len := Config.nearest .windowLength (s.now - s.meter.start) Config.ms
  let s := s.outletsInUse.foldl (fun s n => s.formOutlet r len n) s
  let s := s.branchesInUse.foldl State.formBranch s
  let s := phases.foldl (fun s p => s.formPhase r p) s
  { s with meter :=
      { s.meter with number := (s.meter.number + 1) % 65536, start := s.now, locked := (s.line .l1).locked,
                     crossings := 0, lastEnd := some s.now } }

/-- Whether the running window ends now: at the 20th crossing of L1 under LOCKED, else 200 ms after its start
(R152). -/
def State.windowDue (s : State) : Bool :=
  if s.meter.locked then 20 ≤ s.meter.crossings else s.meter.start + Config.freeWindow ≤ s.now

/-- The window end at the Energization Queue: a grant opportunity at every gate (R121, R155). -/
def State.queueWindow (s : State) : State := (s.branchesInUse.foldl State.gateDue s).flush

/-- One block takes the window end (R155). -/
def State.takeWindow (s : State) : WindowTaker → State
  | .watch => s.watchWindow
  | .queue => s.queueWindow
  | .switching => s.recheckWindow
  | .guard => s.guardWindow

/-- A block is added to a list of blocks, once. -/
def addTaker (l : List WindowTaker) (k : WindowTaker) : List WindowTaker := if l.contains k then l else l ++ [k]

/-- The four blocks that take a window end, in the order of R155's table. -/
def allTakers : List WindowTaker :=
  [WindowTaker.watch, WindowTaker.queue, WindowTaker.switching, WindowTaker.guard]

/-- The order in which the blocks take a window end: as the operand lists them, each once, those it does not
list last (log 9). -/
def takers (order : List WindowTaker) : List WindowTaker :=
  (order ++ allTakers).foldl addTaker []

/-- A window end: the figures are formed, and every block takes it (R155). -/
def State.windowEnd (s : State) (r : WindowReading) : State :=
  if s.windowDue then (takers r.order).foldl State.takeWindow (s.formWindow r) else s

/-- WINDOW_END (R152). -/
def execWindowEnd (t : Nat) (r : WindowReading) (s : State) : Host.Outcome State Fault Refusal :=
  ((s.advance t).windowEnd r).done

/-- The expiry of a branch's spacing judges its gate (R121). -/
def State.spacingExpiry (s : State) (b : Nat) : State :=
  if s.branchInUse b && (s.gate b).lastDrive.isSome && s.spaced b then s.gateDue b else s

/-- SPACING_EXPIRY (R121). -/
def execSpacingExpiry (t b : Nat) (s : State) : Host.Outcome State Fault Refusal :=
  ((s.advance t).spacingExpiry b).done

/-- EXTERNAL_SHED_ASSERT (R175). -/
def execExternalShedAssert (t : Nat) (s : State) : Host.Outcome State Fault Refusal :=
  ((s.advance t).extAssert).done

/-- EXTERNAL_SHED_DEASSERT (R176). -/
def execExternalShedDeassert (t : Nat) (s : State) : Host.Outcome State Fault Refusal :=
  ((s.advance t).extDeassert).done

/-! ### Half-cycles -/

/-- Whether a half-cycle is in range (R156). -/
def halfInRange (d : Nat) : Bool := Config.halfMin ≤ d && d ≤ Config.halfMax

/-- Whether a half-cycle is good: in range, its RMS voltage at or above 85 % of nominal (R158). -/
def halfGood (inRange : Bool) (rms nominal : Nat) : Bool := inRange && 17 * nominal ≤ 20 * rms

/-- An out-of-range half-cycle: the run is 0 and the phase FREE (R156). -/
def Line.unlock (l : Line) : Line := { l with run := 0, locked := false, winLocked := false }

/-- An in-range half-cycle of duration `d`: the run, the lock, the reference half-period and the window's
sum (R155, R156). -/
def Line.inRange (l : Line) (d : Nat) : Line :=
  { l with run := min 16 (l.run + 1), locked := l.locked || 16 ≤ l.run + 1, halves := (d :: l.halves).take 16,
           winSum := l.winSum + d, winCount := l.winCount + 1 }

/-- Whether a crossing now lies within 1 ms of a moment (R159). -/
def near (now moment : Nat) : Bool := now ≤ moment + Config.crossTolerance && moment ≤ now + Config.crossTolerance

/-- A crossing while the phase is UP: the next expected crossing, and the missed count back to 0 where the
crossing lies within 1 ms of the one expected (R159; log 26). -/
def Line.crossUp (l : Line) (now : Nat) : Line :=
  let met := near now l.expected || (match l.prevExpected with | some e => near now e | none => false)
  { l with expected := now + l.half, prevExpected := none, missed := if met then 0 else l.missed }

/-- The half-cycle that a crossing ends, begun at `c` (R156, R158). -/
def Line.halfEnds (l : Line) (now c rms nominal : Nat) : Line :=
  let d := now - c
  let ok := halfInRange d && !l.timedOut
  let m := if ok then l.inRange d else l.unlock
  { m with goodRun :=
      if l.state = .up then none
      else if halfGood ok rms nominal then some (l.goodRun.getD c) else none }

/-- A crossing of a phase at its line record (R156, R158, R159). -/
def Line.cross (l : Line) (now rms nominal : Nat) : Line :=
  let m := match l.lastCross with
    | some c => l.halfEnds now c rms nominal
    | none => l
  let m := { m with lastCross := some now, timedOut := false }
  if l.state = .up then m.crossUp now else m

/-- Whether a peak lies below 70 % of √2 times the nominal phase voltage (R159): both sides squared. -/
def peakFails (peak nominal : Nat) : Bool := 50 * (peak * peak) < 49 * (nominal * nominal)

/-- L1 leaving LOCKED before the window's 20th crossing gives the running window its end at 200 ms (R152). -/
def State.followLock (s : State) : State :=
  { s with meter :=
      { s.meter with locked := s.meter.locked && ((s.line .l1).locked || 20 ≤ s.meter.crossings) } }

/-- A crossing of L1 is counted for the running window (R152). -/
def State.countCrossing (s : State) (p : Phase) : State :=
  if p = .l1 then { s with meter := { s.meter with crossings := s.meter.crossings + 1 } } else s

/-- A crossing of a phase (R156 to R159). -/
def State.crossing (s : State) (p : Phase) (rms peak : Nat) : State :=
  let old := s.line p
  let s := ((s.modLine p fun l => l.cross s.now rms s.settings.nominal).countCrossing p).followLock
  if old.state = .up && old.lastCross.isSome && peakFails peak s.settings.nominal then s.phaseLoss p else s

/-- PHASE_CROSSING (R156). -/
def execPhaseCrossing (t : Nat) (p : Phase) (rms peak : Nat) (s : State) : Host.Outcome State Fault Refusal :=
  ((s.advance t).crossing p rms peak).done

/-- A half-cycle still running at 11.11 ms is out of range at that moment (R156, R158). -/
def State.halfTimeout (s : State) (p : Phase) : State :=
  let l := s.line p
  match l.lastCross with
  | some c =>
    if c + Config.halfMax ≤ s.now ∧ l.timedOut = false then
      (s.modLine p fun l => { l.unlock with timedOut := true, goodRun := none }).followLock
    else s
  | none => s

/-- HALF_CYCLE_TIMEOUT (R156). -/
def execHalfCycleTimeout (t : Nat) (p : Phase) (s : State) : Host.Outcome State Fault Refusal :=
  ((s.advance t).halfTimeout p).done

/-! ### Line state -/

/-- The missed crossing of a phase in UP is counted, and the expected crossing moves on by one reference
half-period (R159). -/
def Line.miss (l : Line) : Line :=
  { l with missed := min 3 (l.missed + 1), prevExpected := some l.expected, expected := l.expected + l.half }

/-- The check 1 ms after an expected crossing with no crossing taken (R159). -/
def State.missedCheck (s : State) (p : Phase) : State :=
  let l := s.line p
  if l.state = .up ∧ l.expected + Config.crossTolerance ≤ s.now then
    let s := s.modLine p Line.miss
    if (s.line p).missed = 3 then s.phaseLoss p else s
  else s

/-- MISSED_CROSSING_CHECK (R159). -/
def execMissedCrossingCheck (t : Nat) (p : Phase) (s : State) : Host.Outcome State Fault Refusal :=
  ((s.advance t).missedCheck p).done

/-- Whether the good run of a phase has reached 2 s (R158, R160). -/
def State.goodRunDue (s : State) (p : Phase) : Bool :=
  match (s.line p).goodRun with
  | some g => g + Config.goodRun ≤ s.now
  | none => false

/-- The good run reaches 2 s: the first judgement UP, or PHASE_RETURN (R158, R160). -/
def State.goodRunComplete (s : State) (p : Phase) : State :=
  if s.goodRunDue p then
    match (s.line p).state with
    | .unknown => s.firstUp p
    | .lost => s.phaseReturn p
    | .up => s
  else s

/-- GOOD_RUN_COMPLETE (R160). -/
def execGoodRunComplete (t : Nat) (p : Phase) (s : State) : Host.Outcome State Fault Refusal :=
  ((s.advance t).goodRunComplete p).done

/-- 3 s after the restoration steps without a first judgement, PHASE_LOSS is declared (R158). -/
def State.firstLimit (s : State) (p : Phase) : State :=
  if (s.line p).state = .unknown ∧ s.restoredAt + Config.firstLimit ≤ s.now then s.firstLost p else s

/-- FIRST_JUDGEMENT_LIMIT (R158). -/
def execFirstJudgementLimit (t : Nat) (p : Phase) (s : State) : Host.Outcome State Fault Refusal :=
  ((s.advance t).firstLimit p).done

end Sys2Proof.Machine
end

