-- ==== Sys2Proof/Machine/Power.lean ====
section
/-! DEFINITION. The power requests POWER_ON, POWER_OFF, CYCLE, CANCEL and RELEASE (R50 to R63), and BEAT
(R79). -/

namespace Sys2Proof.Machine

/-- A power request: judged by R28, refused BUSY for a record awaiting adoption, and then by its own checks
(R50). -/
def State.power (s : State) (tag : Tag) (f : Nat → Load → State × Reply) : State × Reply :=
  s.named tag fun i l => if l.awaiting then (s, .plain .busy) else f i l

/-- POWER_ON, judged by its ranks (R51). -/
def State.powerOn (s : State) (tag : Tag) : State × Reply :=
  s.power tag fun i l =>
    if l.state = .on || l.state = .starting then s.ok
    else if l.state != .unpowered && l.state != .shed && l.state != .dark then (s, .plain .wrongState)
    else if l.outlets.all fun n => (s.outlet n).isFailed then (s, .plain .outletFailed)
    else (s.start i .powerOn).ok

/-- POWER_ON (R51). -/
def execPowerOn (t : Nat) (body : Body Tag) (s : State) : Host.Outcome State Fault Refusal :=
  ((s.advance t).request .powerOn body State.powerOn).done

/-- POWER_OFF, judged by its ranks (R56). -/
def State.powerOff (s : State) (tag : Tag) : State × Reply :=
  s.power tag fun i l =>
    if l.pinned then (s, .plain .pinned)
    else if l.state = .unpowered || l.state = .stopping then s.ok
    else if l.state = .admitting || l.state = .retiring then (s, .plain .wrongState)
    else if l.state = .cycling then ((s.abandonPowerOff i).stop i).ok
    else (s.stop i).ok

/-- POWER_OFF (R56). -/
def execPowerOff (t : Nat) (body : Body Tag) (s : State) : Host.Outcome State Fault Refusal :=
  ((s.advance t).request .powerOff body State.powerOff).done

/-- CYCLE, judged by its ranks (R59). A pinned load (PIN is accepted in STOPPING too, R45) answers PINNED in every
state by rank 1, in STOPPING too, where R58 says WRONG_STATE: the model's choice (log 33). -/
def State.cycle (s : State) (tag : Tag) : State × Reply :=
  s.power tag fun i l =>
    if l.pinned then (s, .plain .pinned)
    else if l.state != .on then (s, .plain .wrongState)
    else if s.failedLocal i then (s, .plain .outletFailed)
    else if s.hasPeers i && !s.linkUp then (s, .plain .peerDown)
    else if s.freeContext.isNone then (s, .plain .busy)
    else ((s.setLoad i { l with wantedOn := true }).enterCycling i .request).ok

/-- CYCLE (R59). -/
def execCycle (t : Nat) (body : Body Tag) (s : State) : Host.Outcome State Fault Refusal :=
  ((s.advance t).request .cycle body State.cycle).done

/-- CANCEL, by the cycle phase (R60). -/
def State.cancel (s : State) (tag : Tag) : State × Reply :=
  s.power tag fun i l =>
    if l.state != .cycling then (s, .plain .wrongState)
    else if s.waiting i then ((s.leaveWaiting i).enterOn i .hung false).ok
    else if s.cycleIn i .opening || s.cycleIn i .dwell then (s.cancelCycle i).ok
    else (s, .plain .wrongState)

/-- CANCEL (R60). -/
def execCancel (t : Nat) (body : Body Tag) (s : State) : Host.Outcome State Fault Refusal :=
  ((s.advance t).request .cancel body State.cancel).done

/-! ### RELEASE -/

/-- RELEASE of a QUARANTINED load (R61). -/
def State.releaseQuarantined (s : State) (i : Nat) : State :=
  let s := s.modLoad i fun l => { l with strikes := 0 }
  if s.anyOutlet (s.localsOf i) Outlet.isClosed then s.enterOn i .boot false
  else (s.restOpen i).moveTo i .unpowered

/-- The branches of a load's local outlets. -/
def State.branchesOf (s : State) (i : Nat) : List Nat :=
  branchNumbers.filter fun b => (s.localsOf i).any fun n => branchOf n = b

/-- A RELEASE of a load named in the list of a branch in HOLD makes the branch RESTORING (R174). -/
def State.leaveHold (s : State) (i b : Nat) : State :=
  let g := s.guard b
  if g.state = .hold && g.list.any fun e => e.victim = .slot i then s.setGuardState b .restoring else s

/-- RELEASE of a SHED load (R62). -/
def State.releaseShed (s : State) (i : Nat) : State × Reply :=
  if (s.branchesOf i).any fun b => (s.guard b).state = .shedding then (s, .plain .wrongState)
  else ((branchNumbers.foldl (fun s b => s.leaveHold i b) s).start i .restore).ok

/-- RELEASE, by the load's state (R61 to R63). -/
def State.release (s : State) (tag : Tag) : State × Reply :=
  s.power tag fun i l =>
    match l.state with
    | .quarantined => (s.releaseQuarantined i).ok
    | .shed => s.releaseShed i
    | .stranded => (s.enterOn i .boot false).ok
    | _ => (s, .plain .wrongState)

/-- RELEASE (R61 to R63). -/
def execRelease (t : Nat) (body : Body Tag) (s : State) : Host.Outcome State Fault Refusal :=
  ((s.advance t).request .release body State.release).done

/-! ### BEAT -/

/-- BEAT of a list of 1 to 16 tags (R79). -/
def State.takeBeats (s : State) (tags : List Tag) : State × Reply :=
  if within 1 16 tags.length then
    let (s', k, u) := s.beats tags
    (s', .answer .done (.beat k u))
  else (s, .plain .badRequest)

/-- BEAT (R79). -/
def execBeat (t : Nat) (body : Body (List Tag)) (s : State) : Host.Outcome State Fault Refusal :=
  ((s.advance t).request .beat body State.takeBeats).done

end Sys2Proof.Machine
end

