-- ==== Sys2Proof/Machine/Reports.lean ====
section
/-! DEFINITION. The requests OUTLETS (R151), REVIVE (R149), FAULTS (R150), METER (R162 to R164), SETTINGS (R12)
and ATTENTION (R208). -/

namespace Sys2Proof.Machine

/-- OUTLETS from a first outlet (R151). -/
def State.readOutlets (s : State) (r : OutletsReq) : State × Reply :=
  if s.inUse r.first && within 1 8 r.count then (s, .answer .done (s.outletsBody r.first r.count))
  else (s, .plain .badRequest)

/-- OUTLETS (R151). -/
def execOutlets (t : Nat) (body : Body OutletsReq) (s : State) : Host.Outcome State Fault Refusal :=
  ((s.advance t).request .outlets body State.readOutlets).done

/-- An outlet returns to service (R149). -/
def Outlet.revived (o : Outlet) : Outlet := { o with service := .inService, faults := 0, driftHeld := false }

/-- REVIVE of an outlet (R149). -/
def State.revive (s : State) (n : Nat) : State × Reply :=
  if s.inUse n then (s.modOutlet n Outlet.revived).ok else (s, .plain .badRequest)

/-- REVIVE (R149). -/
def execRevive (t : Nat) (body : Body Nat) (s : State) : Host.Outcome State Fault Refusal :=
  ((s.advance t).request .revive body State.revive).done

/-- FAULTS: the capture as it stands, then emptied with the clear option (R150). -/
def State.readFaults (s : State) (clear : Bool) : State × Reply :=
  (if clear then { s with capture := none, more := false } else s, .answer .done (.faults s.capture s.more))

/-- FAULTS (R150). -/
def execFaults (t : Nat) (body : Body Bool) (s : State) : Host.Outcome State Fault Refusal :=
  ((s.advance t).request .faults body State.readFaults).done

/-- Whether a selector of METER passes ranks 1 to 3 (R162). -/
def State.selectorOk (s : State) (clear : Bool) : MeterSel → Bool
  | .range first count => s.inUse first && within 1 8 count
  | .branch b => s.branchInUse b && !clear
  | .phase _ => !clear

/-- The energy totals and residues of the outlets returned become 0 (R164). -/
def State.clearEnergy (s : State) : MeterSel → State
  | .range first count =>
    (s.outletRange first count).foldl (fun s n => s.modOutlet n fun o => { o with energy := 0, residue := 0 }) s
  | _ => s

/-- METER, judged by its ranks (R162). -/
def State.readMeter (s : State) (r : MeterReq) : State × Reply :=
  match r.selectors with
  | [sel] =>
    if s.selectorOk r.clear sel then
      (if r.clear then s.clearEnergy sel else s, .answer .done (s.meterBody sel))
    else (s, .plain .badRequest)
  | _ => (s, .plain .badRequest)

/-- METER (R162). -/
def execMeter (t : Nat) (body : Body MeterReq) (s : State) : Host.Outcome State Fault Refusal :=
  ((s.advance t).request .meter body State.readMeter).done

/-- SETTINGS: reading changes nothing (R12). -/
def State.readSettings (s : State) (_ : Unit) : State × Reply := (s, .answer .done s.settingsBody)

/-- SETTINGS (R12). -/
def execSettings (t : Nat) (body : Body Unit) (s : State) : Host.Outcome State Fault Refusal :=
  ((s.advance t).request .settings body State.readSettings).done

/-- ATTENTION: every flag the answer shows raised is lowered in its step (R208). -/
def State.readAttention (s : State) (_ : Unit) : State × Reply :=
  ({ s with flags := Flags.none }, .answer .done s.attentionBody)

/-- ATTENTION (R208). -/
def execAttention (t : Nat) (body : Body Unit) (s : State) : Host.Outcome State Fault Refusal :=
  ((s.advance t).request .attention body State.readAttention).done

end Sys2Proof.Machine
end

