-- ==== Sys2Proof/Machine/Timers.lean ====
section
/-! DEFINITION. The timer events of watches and cycles (R71 to R73, R89, R100). An event whose timer does not
run, or has not reached its setting, has no effect but for the time (log 3). -/

namespace Sys2Proof.Machine

/-- BOOT_GRACE_EXPIRY (R71). -/
def execBootGraceExpiry (t slot : Nat) (s : State) : Host.Outcome State Fault Refusal :=
  ((s.advance t).bootExpiry slot).done

/-- BEAT_DEADLINE_EXPIRY (R72). -/
def execBeatDeadlineExpiry (t slot : Nat) (s : State) : Host.Outcome State Fault Refusal :=
  ((s.advance t).beatExpiry slot).done

/-- CONFIRM_EXPIRY (R73). -/
def execConfirmExpiry (t slot : Nat) (s : State) : Host.Outcome State Fault Refusal :=
  ((s.advance t).confirmExpiry slot).done

/-- Whether the drip timer has run its period (R88). -/
def State.dripDue (s : State) : Bool := s.dripStart + s.settings.dripPeriod * Config.hour ≤ s.now

/-- DRIP_EXPIRY (R89). -/
def execDripExpiry (t : Nat) (s : State) : Host.Outcome State Fault Refusal :=
  let s := s.advance t
  State.done (if s.dripDue then s.drip else s)

/-- Whether the load's cycle is in DWELL and its deadline has expired (R100). -/
def State.dwellDue (s : State) (i : Nat) : Bool :=
  match s.cycleOf i with
  | some c => c.phase = .dwell && s.due c.deadline
  | none => false

/-- DWELL_EXPIRY (R100). -/
def execDwellExpiry (t slot : Nat) (s : State) : Host.Outcome State Fault Refusal :=
  let s := s.advance t
  State.done (if s.dwellDue slot then s.closingStart slot else s)

end Sys2Proof.Machine
end

