-- ==== Sys2Proof/Machine/Dispatch.lean ====
section
/-! DEFINITION. The meaning of every command: one arm per constructor of Instr, each a direct call. -/

namespace Sys2Proof.Machine

/-- The command's effect on everything but the queue. -/
def exec (i : Instr) (s : State) : Host.Outcome State Fault Refusal :=
  match i with
  | .coldReset t size side shedLevel => Sys2Proof.Machine.execColdReset t size side shedLevel s
  | .portReset t => Sys2Proof.Machine.execPortReset t s
  | .readTransaction t complete => Sys2Proof.Machine.execReadTransaction t complete s
  | .ignoredTransaction t first => Sys2Proof.Machine.execIgnoredTransaction t first s
  | .badFrame t bytes => Sys2Proof.Machine.execBadFrame t bytes s
  | .overrun t => Sys2Proof.Machine.execOverrun t s
  | .unknownRequestKind t kind => Sys2Proof.Machine.execUnknownRequestKind t kind s
  | .admitLoad t body => Sys2Proof.Machine.execAdmit t body s
  | .amend t body => Sys2Proof.Machine.execAmend t body s
  | .retire t body => Sys2Proof.Machine.execRetire t body s
  | .lookup t body => Sys2Proof.Machine.execLookup t body s
  | .list t body => Sys2Proof.Machine.execList t body s
  | .pin t body => Sys2Proof.Machine.execPin t body s
  | .aliasAdd t body => Sys2Proof.Machine.execAliasAdd t body s
  | .aliasRemove t body => Sys2Proof.Machine.execAliasRemove t body s
  | .powerOn t body => Sys2Proof.Machine.execPowerOn t body s
  | .powerOff t body => Sys2Proof.Machine.execPowerOff t body s
  | .cycle t body => Sys2Proof.Machine.execCycle t body s
  | .cancel t body => Sys2Proof.Machine.execCancel t body s
  | .release t body => Sys2Proof.Machine.execRelease t body s
  | .beat t body => Sys2Proof.Machine.execBeat t body s
  | .outlets t body => Sys2Proof.Machine.execOutlets t body s
  | .revive t body => Sys2Proof.Machine.execRevive t body s
  | .faults t body => Sys2Proof.Machine.execFaults t body s
  | .meter t body => Sys2Proof.Machine.execMeter t body s
  | .reclaim t body => Sys2Proof.Machine.execReclaim t body s
  | .configure t body => Sys2Proof.Machine.execConfigure t body s
  | .settings t body => Sys2Proof.Machine.execSettings t body s
  | .save t body => Sys2Proof.Machine.execSave t body s
  | .saveEnd t marked => Sys2Proof.Machine.execSaveEnd t marked s
  | .attention t body => Sys2Proof.Machine.execAttention t body s
  | .notices t body => Sys2Proof.Machine.execNotices t body s
  | .bootGraceExpiry t slot => Sys2Proof.Machine.execBootGraceExpiry t slot s
  | .beatDeadlineExpiry t slot => Sys2Proof.Machine.execBeatDeadlineExpiry t slot s
  | .confirmExpiry t slot => Sys2Proof.Machine.execConfirmExpiry t slot s
  | .dripExpiry t => Sys2Proof.Machine.execDripExpiry t s
  | .dwellExpiry t slot => Sys2Proof.Machine.execDwellExpiry t slot s
  | .orderDeadlineExpiry t slot => Sys2Proof.Machine.execOrderDeadlineExpiry t slot s
  | .helloSend t => Sys2Proof.Machine.execHelloSend t s
  | .hello t side count rating => Sys2Proof.Machine.execHello t side count rating s
  | .silenceExpiry t => Sys2Proof.Machine.execSilenceExpiry t s
  | .linkFrameDropped t bytes => Sys2Proof.Machine.execLinkFrameDropped t bytes s
  | .bind t tag order entries prio => Sys2Proof.Machine.execBind t tag order entries prio s
  | .unbind t tag order => Sys2Proof.Machine.execUnbind t tag order s
  | .drop t tag order hold => Sys2Proof.Machine.execDrop t tag order hold s
  | .raise t tag order => Sys2Proof.Machine.execRaise t tag order s
  | .bound t tag order => Sys2Proof.Machine.execBound t tag order s
  | .refused t tag order reason => Sys2Proof.Machine.execRefused t tag order reason s
  | .unbound t tag order => Sys2Proof.Machine.execUnbound t tag order s
  | .dropped t tag order => Sys2Proof.Machine.execDropped t tag order s
  | .dropRefused t tag order => Sys2Proof.Machine.execDropRefused t tag order s
  | .raised t tag order => Sys2Proof.Machine.execRaised t tag order s
  | .raiseFailed t tag order outlet => Sys2Proof.Machine.execRaiseFailed t tag order outlet s
  | .holdDeadlineExpiry t => Sys2Proof.Machine.execHoldDeadlineExpiry t s
  | .closeDrive t outlet => Sys2Proof.Machine.execCloseDrive t outlet s
  | .closeConfirmed t outlet volts => Sys2Proof.Machine.execCloseConfirmed t outlet volts s
  | .closeConfirmWindowEnd t outlet => Sys2Proof.Machine.execCloseConfirmWindowEnd t outlet s
  | .openDrive t outlet => Sys2Proof.Machine.execOpenDrive t outlet s
  | .openConfirmed t outlet volts current => Sys2Proof.Machine.execOpenConfirmed t outlet volts current s
  | .openConfirmWindowEnd t outlet => Sys2Proof.Machine.execOpenConfirmWindowEnd t outlet s
  | .sensedPositionChange t outlet volts => Sys2Proof.Machine.execSensedPositionChange t outlet volts s
  | .patrolTick t => Sys2Proof.Machine.execPatrolTick t s
  | .windowEnd t reading => Sys2Proof.Machine.execWindowEnd t reading s
  | .spacingExpiry t branch => Sys2Proof.Machine.execSpacingExpiry t branch s
  | .externalShedAssert t => Sys2Proof.Machine.execExternalShedAssert t s
  | .externalShedDeassert t => Sys2Proof.Machine.execExternalShedDeassert t s
  | .phaseCrossing t phase rms peak => Sys2Proof.Machine.execPhaseCrossing t phase rms peak s
  | .halfCycleTimeout t phase => Sys2Proof.Machine.execHalfCycleTimeout t phase s
  | .missedCrossingCheck t phase => Sys2Proof.Machine.execMissedCrossingCheck t phase s
  | .goodRunComplete t phase => Sys2Proof.Machine.execGoodRunComplete t phase s
  | .firstJudgementLimit t phase => Sys2Proof.Machine.execFirstJudgementLimit t phase s
  | .portResetRelease t => Sys2Proof.Machine.execPortResetRelease t s
  | .linkFrameSent t => Sys2Proof.Machine.execLinkFrameSent t s

end Sys2Proof.Machine
end

