-- ==== Sys2Proof/Safety.lean ====
section
/-! DEFINITION. What the model keeps true from step to step: nothing left to judge, the ranges of R132, the
order of the queue (R116), the strike bound (R83), the branch budget (R8), the port under PRST_N (R204); and the
words the statements are written in. -/

namespace Sys2Proof

/-- The timebase value at which a command is taken. -/
def Instr.time : Instr → Nat
  | .coldReset t _ _ _ => t | .portReset t => t | .readTransaction t _ => t | .ignoredTransaction t _ => t
  | .badFrame t _ => t | .overrun t => t | .unknownRequestKind t _ => t | .admitLoad t _ => t | .amend t _ => t
  | .retire t _ => t | .lookup t _ => t | .list t _ => t | .pin t _ => t | .aliasAdd t _ => t
  | .aliasRemove t _ => t | .powerOn t _ => t | .powerOff t _ => t | .cycle t _ => t | .cancel t _ => t
  | .release t _ => t | .beat t _ => t | .outlets t _ => t | .revive t _ => t | .faults t _ => t
  | .meter t _ => t | .reclaim t _ => t | .configure t _ => t | .settings t _ => t | .save t _ => t
  | .saveEnd t _ => t | .attention t _ => t | .notices t _ => t | .bootGraceExpiry t _ => t
  | .beatDeadlineExpiry t _ => t | .confirmExpiry t _ => t | .dripExpiry t => t | .dwellExpiry t _ => t
  | .orderDeadlineExpiry t _ => t | .helloSend t => t | .hello t _ _ _ => t | .silenceExpiry t => t
  | .linkFrameDropped t _ => t | .bind t _ _ _ _ => t | .unbind t _ _ => t | .drop t _ _ _ => t
  | .raise t _ _ => t | .bound t _ _ => t | .refused t _ _ _ => t | .unbound t _ _ => t | .dropped t _ _ => t
  | .dropRefused t _ _ => t | .raised t _ _ => t | .raiseFailed t _ _ _ => t | .holdDeadlineExpiry t => t
  | .closeDrive t _ => t | .closeConfirmed t _ _ => t | .closeConfirmWindowEnd t _ => t | .openDrive t _ => t
  | .openConfirmed t _ _ _ => t | .openConfirmWindowEnd t _ => t | .sensedPositionChange t _ _ => t
  | .patrolTick t => t | .windowEnd t _ => t | .spacingExpiry t _ => t | .externalShedAssert t => t
  | .externalShedDeassert t => t | .phaseCrossing t _ _ _ => t | .halfCycleTimeout t _ => t
  | .missedCrossingCheck t _ => t | .goodRunComplete t _ => t | .firstJudgementLimit t _ => t
  | .portResetRelease t => t | .linkFrameSent t => t

end Sys2Proof

namespace Sys2Proof.Machine

/-! ### Between steps -/

/-- Whether a branch in RESTORING has completed its return: its list empty and no RESTORE entry queued
(R174). -/
def State.returned (s : State) (b : Nat) : Bool :=
  (s.guard b).state = .restoring && (s.guard b).list.isEmpty && !s.restoreQueued b

/-- The state stands between steps: nothing is left to judge, the attention line stands where R207 puts it,
and no branch's return is complete but unjudged. -/
abbrev State.Settled (s : State) : Prop :=
  s.work = Work.none ∧ s.attnLow = s.lineWanted ∧ ∀ b ∈ branchNumbers, s.returned b = false

/-- PRST_N is high and no request holds the port: a good write frame is taken (R201). -/
abbrev State.Free (s : State) : Prop := s.port.prstLow = false ∧ s.executing = false

/-- The port after a write frame has been answered in its step, the kind byte echoed (R201, R202); everything
else is `s`. -/
def State.answers (s : State) (kind : Byte) (status : Status) (body : AnswerBody) : State :=
  { s with port := { state := .ready { kind := kind, status := status, body := body },
                     prstLow := s.port.prstLow, miso := .nothing } }

/-- The port after a request has been answered in the step of its taking (R202); everything else is `s`. -/
def State.answered (s : State) (k : ReqKind) (status : Status) (body : AnswerBody) : State :=
  s.answers k.code status body

/-- The answer of a request stands in the answer buffer (R202). -/
def State.shows (s : State) (k : ReqKind) (status : Status) (body : AnswerBody) : Prop :=
  s.port.state = .ready { kind := k.code, status := status, body := body }

/-- The port while the answer of a request is held (R201); everything else is `s`. -/
def State.holding (s : State) (k : ReqKind) (slot : Nat) : State :=
  { s with port := { state := .executing k slot, prstLow := s.port.prstLow, miso := .nothing } }

/-- The outlet holds a queue entry of the owner, class and cause with the arrival (R115). -/
def State.queued (s : State) (n : Nat) (owner : Owner) (prio : Nat) (cause : QueueCause) (arrival : Nat) : Prop :=
  { outlet := n, owner := owner, prio := prio, cause := cause, arrival := arrival } ∈ s.queue

/-- An insertion of the outlet on the owner's behalf places an entry: every row of R117 but the last is false. -/
def State.insertable (s : State) (n : Nat) (owner : Owner) : Prop :=
  s.hasEntry n = false ∧ s.inUse n = true ∧ n ≤ 48 ∧ (s.outlet n).adopted = true ∧ (s.outlet n).owner = owner ∧
    (s.outlet n).releasing = false ∧ (s.outlet n).service = .inService ∧ (s.outlet n).commanded = .opened ∧
    s.phaseLost (s.phaseOf n) = false

/-- An open has been asked of the outlet, by R137, of what it was: in flight or done, or kept for the end of the
close in flight. -/
def Outlet.openAsked (was is : Outlet) : Prop :=
  (was.switching = .idle → was.commanded = .closed → is.commanded = .opened ∧ is.switching = .opening) ∧
  (was.switching = .closing → was.commanded = .closed → is.pendingOpen = true ∧ is.switching = .closing) ∧
  (was.commanded = .opened → is.commanded = .opened ∧ is.switching = was.switching)

/-- What a fault of the kind charged to the outlet does to everything but its owner's part, which comes after it
(R147, R148): `w` is the state after it, `s` before. -/
def State.charged (s w : State) (n : Nat) (k : FaultKind) : Prop :=
  let o := s.outlet n
  let fails := o.service = .inService ∧ s.settings.faultThreshold ≤ min 15 (o.faults + 1)
  (w.outlet n).faults = min 15 (o.faults + 1) ∧ (w.outlet n).service = (if fails then .failed else o.service) ∧
    (fails → w.hasEntry n = false) ∧ (¬ fails → w.hasEntry n = s.hasEntry n) ∧ w.flags.outletFault = true ∧
    (s.capture = none →
      w.capture = some { outlet := n, kind := k, ownerTag := s.ownerTag n, current := o.current }) ∧
    (s.capture ≠ none → w.capture = s.capture ∧ w.more = true) ∧
    (∀ i l, o.owner = .bound i → s.load i = some l →
      w.load i = some { l with notices := addNotice l.notices .outletFault } ∧ w.flags.loadNotice = true) ∧
    ((∀ i, o.owner ≠ .bound i) → w.slots = s.slots)

/-! ### The branch budget (R8) -/

/-- What an outlet counts in its branch's reservation sum. -/
def Outlet.weight (o : Outlet) : Nat := if o.owned then o.reservation else 0

/-- Every branch in use stays inside its admit ceiling (R8). -/
abbrev State.WithinCeilings (s : State) : Prop := ∀ b ∈ s.branchesInUse, s.branchSum b ≤ s.ceiling b

/-! ### Ranges and orders -/

/-- The ranges of R132's counts and times. -/
def Outlet.inRange (o : Outlet) : Bool :=
  within 2 20 o.closeTime && within 2 20 o.openTime && o.faults ≤ 15 && o.ops ≤ Config.opsMax

/-- Every outlet's counts and times lie in their ranges (R132). -/
abbrev State.OutletsInRange (s : State) : Prop := ∀ o ∈ s.outlets.toList, o.inRange = true

/-- A record's strike count does not pass its strike threshold (R83). -/
def Load.strikesKept (l : Load) : Bool := l.strikes ≤ l.cyclePolicy.threshold

/-- Whether the record of a slot, if there is one, keeps the strike bound. -/
def Slot.strikesKept (v : Slot) : Bool :=
  match v.load with
  | some l => l.strikesKept
  | none => true

/-- No strike count passes its threshold (R83). -/
abbrev State.StrikesKept (s : State) : Prop := ∀ v ∈ s.slots.toList, v.strikesKept = true

/-- The half-cycles that the reference half-period of a phase is the mean of lie in range (R156). -/
abbrev State.HalvesKept (s : State) : Prop := ∀ l ∈ s.lines.toList, ∀ h ∈ l.halves, halfInRange h = true

/-- Queue order between two entries: class first, then arrival (R116). -/
def Entry.notAfter (x y : Entry) : Prop := y.prio < x.prio ∨ (x.prio = y.prio ∧ x.arrival ≤ y.arrival)

/-- The queue stands in its order (R116), with at most one entry for an outlet (R117) and no arrival later
than now. -/
def State.QueueOrdered (s : State) : Prop :=
  s.queue.Pairwise Entry.notAfter ∧ (s.queue.map (·.outlet)).Nodup ∧ ∀ e ∈ s.queue, e.arrival ≤ s.now

/-- Every local outlet of every record is BOUND to the record's slot, carries the record's reservation, and is not
releasing (R24). -/
def State.ListsOwned (s : State) : Prop :=
  ∀ i l, s.load i = some l → ∀ e ∈ l.locals,
    (s.outlet e.outlet).owner = .bound i ∧ (s.outlet e.outlet).reservation = e.res ∧
      (s.outlet e.outlet).releasing = false

/-- The tags of a record: its load tag and its aliases (R26). -/
def Load.tags (l : Load) : List Tag := l.tag :: l.aliases

/-- Load tags and aliases are nonzero and pairwise distinct (R26). -/
def State.TagsDistinct (s : State) : Prop :=
  (∀ i l, s.load i = some l → l.tags.Nodup ∧ ∀ g ∈ l.tags, g ≠ 0) ∧
    ∀ i j l m, s.load i = some l → s.load j = some m → i ≠ j → ∀ g ∈ l.tags, g ∉ m.tags

/-- While PRST_N is low the port is IDLE (R204). -/
abbrev State.PortHeldIdle (s : State) : Prop := s.port.prstLow = true → s.port.state = .idle

/-! ### Commands by what they can touch -/

/-- The commands that can move the Command Port: SPI transactions, requests, and what can end a held request.
PORT_RESET, PORT_RESET_RELEASE and COLD_RESET are told apart from these. -/
def portCommand : Instr → Bool
  | .readTransaction _ _ => true | .ignoredTransaction _ _ => true | .badFrame _ _ => true | .overrun _ => true
  | .unknownRequestKind _ _ => true | .admitLoad _ _ => true | .amend _ _ => true | .retire _ _ => true
  | .lookup _ _ => true | .list _ _ => true | .pin _ _ => true | .aliasAdd _ _ => true | .aliasRemove _ _ => true
  | .powerOn _ _ => true | .powerOff _ _ => true | .cycle _ _ => true | .cancel _ _ => true
  | .release _ _ => true | .beat _ _ => true | .outlets _ _ => true | .revive _ _ => true | .faults _ _ => true
  | .meter _ _ => true | .reclaim _ _ => true | .configure _ _ => true | .settings _ _ => true
  | .save _ _ => true | .attention _ _ => true | .notices _ _ => true | .orderDeadlineExpiry _ _ => true
  | .helloSend _ => true | .hello _ _ _ _ => true | .silenceExpiry _ => true | .bound _ _ _ => true
  | .refused _ _ _ _ => true | .unbound _ _ _ => true | .dropped _ _ _ => true | .dropRefused _ _ _ => true
  | .raised _ _ _ => true | .raiseFailed _ _ _ _ => true
  | _ => false

/-- The commands that are write frames at the port: the requests, a bad frame (its first byte 0xC3), an overrun and a
frame of unknown kind (R200, R201). -/
def writeFrame : Instr → Bool
  | .badFrame _ bytes => bytes.head? = some 0xC3
  | .overrun _ => true | .unknownRequestKind _ _ => true | .admitLoad _ _ => true
  | .amend _ _ => true | .retire _ _ => true | .lookup _ _ => true | .list _ _ => true | .pin _ _ => true
  | .aliasAdd _ _ => true | .aliasRemove _ _ => true | .powerOn _ _ => true | .powerOff _ _ => true
  | .cycle _ _ => true | .cancel _ _ => true | .release _ _ => true | .beat _ _ => true | .outlets _ _ => true
  | .revive _ _ => true | .faults _ _ => true | .meter _ _ => true | .reclaim _ _ => true | .configure _ _ => true
  | .settings _ _ => true | .save _ _ => true | .attention _ _ => true | .notices _ _ => true
  | _ => false

/-- A request at `t` whose body does not fit its kind, with its kind (R201). -/
inductive Unfit (t : Nat) : ReqKind → Instr → Prop where
  | admitLoad : Unfit t .admitLoad (.admitLoad t .unfit)
  | amend : Unfit t .amend (.amend t .unfit)
  | retire : Unfit t .retire (.retire t .unfit)
  | lookup : Unfit t .lookup (.lookup t .unfit)
  | list : Unfit t .list (.list t .unfit)
  | pin : Unfit t .pin (.pin t .unfit)
  | aliasAdd : Unfit t .aliases (.aliasAdd t .unfit)
  | aliasRemove : Unfit t .aliases (.aliasRemove t .unfit)
  | powerOn : Unfit t .powerOn (.powerOn t .unfit)
  | powerOff : Unfit t .powerOff (.powerOff t .unfit)
  | cycle : Unfit t .cycle (.cycle t .unfit)
  | cancel : Unfit t .cancel (.cancel t .unfit)
  | release : Unfit t .release (.release t .unfit)
  | beat : Unfit t .beat (.beat t .unfit)
  | outlets : Unfit t .outlets (.outlets t .unfit)
  | revive : Unfit t .revive (.revive t .unfit)
  | faults : Unfit t .faults (.faults t .unfit)
  | meter : Unfit t .meter (.meter t .unfit)
  | reclaim : Unfit t .reclaim (.reclaim t .unfit)
  | configure : Unfit t .configure (.configure t .unfit)
  | settings : Unfit t .settings (.settings t .unfit)
  | save : Unfit t .save (.save t .unfit)
  | attention : Unfit t .attention (.attention t .unfit)
  | notices : Unfit t .notices (.notices t .unfit)

/-- A request at `t` that names a load, as a function of its tag operand, with its kind and the expected revision
it carries (R28). -/
inductive NamesLoad (t : Nat) : ReqKind → Option Nat → (Tag → Instr) → Prop where
  | amend (r : AmendReq) : NamesLoad t .amend r.expected fun g => .amend t (.fits { r with tag := g })
  | retire (e : Option Nat) : NamesLoad t .retire e fun g => .retire t (.fits { tag := g, expected := e })
  | lookup : NamesLoad t .lookup none fun g => .lookup t (.fits g)
  | pin : NamesLoad t .pin none fun g => .pin t (.fits g)
  | aliasAdd (a : Tag) : NamesLoad t .aliases none fun g => .aliasAdd t (.fits { tag := g, other := a })
  | aliasRemove (a : Tag) : NamesLoad t .aliases none fun g => .aliasRemove t (.fits { tag := g, other := a })
  | powerOn : NamesLoad t .powerOn none fun g => .powerOn t (.fits g)
  | powerOff : NamesLoad t .powerOff none fun g => .powerOff t (.fits g)
  | cycle : NamesLoad t .cycle none fun g => .cycle t (.fits g)
  | cancel : NamesLoad t .cancel none fun g => .cancel t (.fits g)
  | release : NamesLoad t .release none fun g => .release t (.fits g)

/-- An answer taken at `t` in the home role, with the end that it gives the order it answers (R187). -/
inductive AnswerFrame (t : Nat) (tag : Tag) (number : Nat) : OrderEnd → Instr → Prop where
  | bound : AnswerFrame t tag number .bound (.bound t tag number)
  | refused (r : RefuseReason) : AnswerFrame t tag number (.refused r) (.refused t tag number r)
  | unbound : AnswerFrame t tag number .unbound (.unbound t tag number)
  | dropped : AnswerFrame t tag number .dropped (.dropped t tag number)
  | dropRefused : AnswerFrame t tag number .dropRefused (.dropRefused t tag number)
  | raised : AnswerFrame t tag number .raised (.raised t tag number)
  | raiseFailed (n : Nat) : n ≤ 48 → AnswerFrame t tag number (.raiseFailed n) (.raiseFailed t tag number n)

/-- What the link's leaving UP leaves (R188): no order record, no order or answer on the transmit list, no pending
answer. -/
def State.linkEmptied (s : State) : Prop :=
  (∀ i l, s.load i = some l → l.order = none) ∧ (∀ f ∈ s.link.tx, f.isHello = true) ∧ s.link.answers = []

/-- A power request at `t`, as a function of its tag, with its kind (R50). -/
inductive PowerRequest (t : Nat) : ReqKind → (Tag → Instr) → Prop where
  | powerOn : PowerRequest t .powerOn fun g => .powerOn t (.fits g)
  | powerOff : PowerRequest t .powerOff fun g => .powerOff t (.fits g)
  | cycle : PowerRequest t .cycle fun g => .cycle t (.fits g)
  | cancel : PowerRequest t .cancel fun g => .cancel t (.fits g)
  | release : PowerRequest t .release fun g => .release t (.fits g)

/-- The tag names the load `l` in slot `i` (R28). -/
def State.names (s : State) (tag : Tag) (i : Nat) (l : Load) : Prop :=
  tag ≠ 0 ∧ s.resolve tag = some i ∧ s.load i = some l

/-- An ADMIT that passes the ranks of R29 as one that is no repeat. -/
def State.admits (s : State) (r : AdmitReq) : Prop :=
  admitOk s.rating r = true ∧ s.resolve r.tag = none ∧ (r.peers ≠ [] → s.link.presence = .up) ∧
    s.claimFails r.locals false = none

/-- The state once an order number has been drawn: 255 is followed by 1 (R185). -/
def State.drawn (s : State) : State :=
  { s with link := { s.link with counter := if 255 ≤ s.link.counter then 1 else s.link.counter + 1 } }

/-! ### LOOKUP (R43, R215) -/

/-- The byte at a place of a frame or body is the number's last eight bits. -/
def byteAt (bytes : List Byte) (place value : Nat) : Prop := bytes[place]? = some (BitVec.ofNat 8 value)

/-- Two bytes from a place on hold the number, the most significant first. -/
def twoAt (bytes : List Byte) (place value : Nat) : Prop :=
  byteAt bytes place (value / 256) ∧ byteAt bytes (place + 1) value

/-- Four bytes from a place on hold the number, the most significant first. -/
def fourAt (bytes : List Byte) (place value : Nat) : Prop :=
  twoAt bytes place (value / 65536) ∧ twoAt bytes (place + 2) value

/-- So many bytes from a place on are 0: the form of an absent field. -/
def zerosAt (bytes : List Byte) (place count : Nat) : Prop := ∀ j, j < count → byteAt bytes (place + j) 0

/-- The nine bytes of a watch policy, or zeros. -/
def watchPolicyAt (bytes : List Byte) (place : Nat) : Option WatchPolicy → Prop
  | none => zerosAt bytes place 9
  | some p =>
    byteAt bytes place (match p.mode with | .beat => 0 | .flat => 1 | .beatAndFlat => 2) ∧
    twoAt bytes (place + 1) p.interval ∧ byteAt bytes (place + 3) p.miss ∧ twoAt bytes (place + 4) p.span ∧
    byteAt bytes (place + 6) p.band ∧ twoAt bytes (place + 7) p.grace

/-- The four bytes of a cycle policy, or zeros; auto-cycle yes is 1 and no is 0 (log 39). -/
def cyclePolicyAt (bytes : List Byte) (place : Nat) : Option CyclePolicy → Prop
  | none => zerosAt bytes place 4
  | some p =>
    byteAt bytes place p.dwell ∧ byteAt bytes (place + 1) (if p.auto then 1 else 0) ∧
    byteAt bytes (place + 2) p.threshold ∧
    byteAt bytes (place + 3) (match p.action with | .leaveOn => 0 | .turnOff => 1)

/-- Four entries of an outlet and its reservation, the unused ones 0. -/
def entriesAt (bytes : List Byte) (place : Nat) (es : List OutletRes) : Prop :=
  ∀ j, j < 4 → match es[j]? with
    | some e => byteAt bytes (place + 3 * j) e.outlet ∧ twoAt bytes (place + 3 * j + 1) e.res
    | none => zerosAt bytes (place + 3 * j) 3

/-- The number of a cycle reason, 0 for an outcome without one. -/
def CycleOutcome.reasonNumber : CycleOutcome → Nat
  | .failed .outletFault => 1 | .abandoned .outletFault => 1 | .failed .peerNoAnswer => 2
  | .abandoned .peerNoAnswer => 2 | .failed .peerRefused => 3 | .abandoned .peerRefused => 3
  | .failed .peerLost => 4 | .abandoned .peerLost => 4 | .failed .powerOff => 5 | .abandoned .powerOff => 5
  | .failed .lineLoss => 6 | .abandoned .lineLoss => 6 | _ => 0

/-- The fields of a record that stand between its tag and its lists: bytes 5 to 36 but for the cycle phase. -/
def Load.policyBytes (l : Load) (bytes : List Byte) : Prop :=
  twoAt bytes 5 l.revision ∧
  (∃ b : Byte, bytes[7]? = some b ∧ b.getLsbD 0 = l.wantedOn ∧ b.getLsbD 1 = l.pinned ∧
    b.getLsbD 2 = l.awaiting ∧ b.getLsbD 3 = l.postCycleBoot ∧ b.getLsbD 4 = l.watchPolicy.isSome ∧
    b.getLsbD 5 = l.staged.isSome ∧ b.getLsbD 6 = l.lastOutcome.isSome ∧ b.getLsbD 7 = l.powerTime.isSome) ∧
  byteAt bytes 8 (match l.state with
    | .admitting => 1 | .unpowered => 2 | .starting => 3 | .on => 4 | .stopping => 5 | .cycling => 6
    | .quarantined => 7 | .shed => 8 | .dark => 9 | .stranded => 10 | .retiring => 11) ∧
  byteAt bytes 10 (match l.watch.sub with
    | .inactive => 0 | .boot => 1 | .live => 2 | .suspect => 3 | .hung => 4) ∧
  byteAt bytes 11 (match l.qReason with
    | none => 0 | some .strikes => 1 | some .outletFailed => 2) ∧
  byteAt bytes 12 l.prio ∧ byteAt bytes 13 (match l.pop with | .stayOff => 0 | .on => 1 | .last => 2) ∧
  byteAt bytes 14 l.strikes ∧ twoAt bytes 15 l.notices.toNat ∧
  watchPolicyAt bytes 17 l.watchPolicy ∧ cyclePolicyAt bytes 26 (some l.cyclePolicy) ∧
  (match l.lastOutcome with
    | none => zerosAt bytes 30 3
    | some o =>
      byteAt bytes 30 (match o.outcome with | .done => 0 | .cancelled => 1 | .failed _ => 2 | .abandoned _ => 3) ∧
      byteAt bytes 31 o.outcome.reasonNumber ∧
      byteAt bytes 32 (match o.cause with | .hang => 0 | .bootExpiry => 1 | .request => 2)) ∧
  fourAt bytes 33 (l.powerTime.getD 0 / 100)

/-- The staged fields of a record: bytes 76 to 91. -/
def stagedAt (bytes : List Byte) : Option PolicyChange → Prop
  | none => zerosAt bytes 76 16
  | some p =>
    (∃ b : Byte, bytes[76]? = some b ∧ b.getLsbD 0 = p.prio.isSome ∧ b.getLsbD 1 = p.pop.isSome ∧
      (b.getLsbD 2 = true ↔ ∃ w, p.watch = some (.replace w)) ∧
      (b.getLsbD 3 = true ↔ p.watch = some .remove) ∧ b.getLsbD 4 = p.cycle.isSome ∧
      b.getLsbD 5 = false ∧ b.getLsbD 6 = false ∧ b.getLsbD 7 = false) ∧
    byteAt bytes 77 (p.prio.getD 0) ∧
    byteAt bytes 78 (match p.pop with | some .on => 1 | some .last => 2 | _ => 0) ∧
    watchPolicyAt bytes 79 (match p.watch with | some (.replace w) => some w | _ => none) ∧
    cyclePolicyAt bytes 88 p.cycle

/-- The 92 bytes of a LOOKUP answer for the record `l` of slot `i`, field by field (R43, R215). -/
def State.lookupSpells (s : State) (i : Nat) (l : Load) (bytes : List Byte) : Prop :=
  bytes.length = 92 ∧ byteAt bytes 0 i ∧ fourAt bytes 1 l.tag.toNat ∧ Load.policyBytes l bytes ∧
  (l.state ≠ .cycling → byteAt bytes 9 0) ∧
  (l.state = .cycling → (∃ w ∈ s.waitList, w.slot = i) → byteAt bytes 9 1) ∧
  (∀ c, l.state = .cycling → (∀ w ∈ s.waitList, w.slot ≠ i) → s.cycleOf i = some c →
    byteAt bytes 9 (match c.phase with | .opening => 2 | .dwell => 3 | .closing => 4)) ∧
  byteAt bytes 37 l.locals.length ∧ byteAt bytes 38 l.peers.length ∧ byteAt bytes 39 l.aliases.length ∧
  entriesAt bytes 40 l.locals ∧ entriesAt bytes 52 l.peers ∧
  (∀ j, j < 3 → fourAt bytes (64 + 4 * j) ((l.aliases[j]?.getD 0).toNat)) ∧
  stagedAt bytes l.staged

/-- What LIST shows of the state of the record `l` of slot `i`: the quarantine reason in QUARANTINED, the cycle phase in
CYCLING, and the watch sub-state in every state (R43, R44, R49). -/
def State.showsState (s : State) (i : Nat) (l : Load) (v : StateShown) : Prop :=
  v.state = l.state ∧ v.watch = l.watch.sub ∧
  (l.state = .quarantined → v.reason = l.qReason) ∧ (l.state ≠ .quarantined → v.reason = none) ∧
  (l.state ≠ .cycling → v.phase = .none) ∧
  (l.state = .cycling → (∃ w ∈ s.waitList, w.slot = i) → v.phase = .waiting) ∧
  (∀ c, l.state = .cycling → (∀ w ∈ s.waitList, w.slot ≠ i) → s.cycleOf i = some c →
    v.phase = match c.phase with | .opening => .opening | .dwell => .dwell | .closing => .closing)

/-! ### Operand ranges (R24, R25, section 1.5) -/

/-- A local list of the form of R24, under a rating in A. -/
def localsFit (rating : Nat) (es : List OutletRes) : Prop :=
  1 ≤ es.length ∧ es.length ≤ 4 ∧ (es.map (·.outlet)).Nodup ∧ ∀ e ∈ es, 1 ≤ e.res ∧ e.res ≤ 10 * rating

/-- A peer list of the form of R24. -/
def peersFit (es : List OutletRes) : Prop :=
  es.length ≤ 4 ∧ (es.map (·.outlet)).Nodup ∧
    ∀ e ∈ es, (1 ≤ e.outlet ∧ e.outlet ≤ 48) ∧ 1 ≤ e.res ∧ e.res ≤ 320

/-- A watch policy in the ranges of R25. -/
def watchFits (p : WatchPolicy) : Prop :=
  (1 ≤ p.interval ∧ p.interval ≤ 3600) ∧ (1 ≤ p.miss ∧ p.miss ≤ 15) ∧ (10 ≤ p.span ∧ p.span ≤ 1800) ∧
    (1 ≤ p.band ∧ p.band ≤ 200) ∧ 10 ≤ p.grace ∧ p.grace ≤ 3600

/-- A cycle policy in the ranges of R25. -/
def cycleFits (p : CyclePolicy) : Prop := (1 ≤ p.dwell ∧ p.dwell ≤ 120) ∧ 1 ≤ p.threshold ∧ p.threshold ≤ 15

/-- A carried setting in the range and step of section 1.5, under the branch count, the rating in A and the branch
ceilings in dA that would result (R13, rank 1). -/
def settingFits (count rating : Nat) (ceiling : Nat → Nat) : SettingChange → Prop
  | .branchCount v => v = none ∨ v = some 3 ∨ v = some 6
  | .rating v => v = none ∨ v = some 10 ∨ v = some 16 ∨ v = some 20 ∨ v = some 32
  | .nominal v => 1000 ≤ v ∧ v ≤ 2770
  | .ceiling b v => (1 ≤ b ∧ b ≤ count) ∧ rating ≤ v ∧ v ≤ 10 * rating
  | .threshold b v => (1 ≤ b ∧ b ≤ count) ∧ ceiling b ≤ v ∧ v ≤ 10 * rating
  | .hysteresis v => 5 ≤ v ∧ v ≤ 50
  | .spacing v => ∃ k, 1 ≤ k ∧ k ≤ 50 ∧ v = 100 * k
  | .restoreMode b _ => 1 ≤ b ∧ b ≤ count
  | .restoreDelay v => 10 ≤ v ∧ v ≤ 600
  | .extClass v => v ≤ 3
  | .dripPeriod v => 1 ≤ v ∧ v ≤ 255
  | .faultThreshold v => 1 ≤ v ∧ v ≤ 15
  | .wearLimit v => 1000 ≤ v ∧ v ≤ 1000000
  | .raiseLimit v => 10 ≤ v ∧ v ≤ 300
  | .side _ | .extRestore _ | .enable _ _ | .master _ => True

/-! ### Settings carried -/

/-- The value that some change of a list carries for a setting, or the other value where none does. -/
def carried {α : Type} (cs : List SettingChange) (pick : SettingChange → Option α) (otherwise : α) : α :=
  (cs.findSome? pick).getD otherwise

/-! ### Shedding (R167, R171) -/

/-- The candidate `c` is `d` or is taken before it, by the five ranks of R167 (log 16: two STARTING loads are
compared by their power times too). -/
def Candidate.first (c d : Candidate) : Prop :=
  c.prio < d.prio ∨ c.prio = d.prio ∧
    match c, d with
    | .lent _ _ x, .lent _ _ y => y ≤ x
    | .lent _ _ _, .load _ _ _ _ => True
    | .load _ _ _ _, .lent _ _ _ => False
    | .load i _ si pi, .load j _ sj pj =>
      (si = true ∧ sj = false) ∨ si = sj ∧ (pj < pi ∨ pi = pj ∧ j ≤ i)

/-- What recording newly marked outlets of a victim makes of a shed list (R171): nothing where there are none,
more outlets in the victim's entry, or a new entry at the end. -/
def recordedAs (v : Victim) (k : ShedKind) (fresh : List Nat) (was now : List ShedEntry) : Prop :=
  (fresh = [] → now = was) ∧
  (fresh ≠ [] → (∀ e ∈ was, e.victim ≠ v) → now = was ++ [{ victim := v, kind := k, outlets := fresh }]) ∧
  ∀ before e after, fresh ≠ [] → was = before ++ e :: after → e.victim = v → (∀ x ∈ before, x.victim ≠ v) →
    now = before ++ { e with outlets := e.outlets ++ fresh.filter fun n => !e.outlets.contains n } :: after

/-- The outlets of a list that a shed newly marks: those closed or queued that carry no marker yet (R168, R171;
log 16). -/
def State.freshOf (s : State) (ns : List Nat) : List Nat :=
  ns.filter fun n => ((s.outlet n).commanded = .closed || s.hasEntry n) && !(s.outlet n).shed

/-- What restoring makes of one outlet recorded in the entry of a victim, inserted for an owner with a class (R173,
R117): it leaves the victim's entries, its marker is cleared, and it is queued, or takes what R117 gives it. -/
def State.restoredOutlet (s u : State) (v : Victim) (n : Nat) (owner : Owner) (prio : Nat) : Prop :=
  (n ∈ outletNumbers → (u.outlet n).shed = false) ∧
  ((s.outlet n).shed = true → ∀ d ∈ u.shedEntries, d.victim = v → n ∉ d.outlets) ∧
  (s.insertable n owner → u.queued n owner prio .restore s.now) ∧
  (s.hasEntry n = false → (s.outlet n).service = .failed → u.hasEntry n = false) ∧
  (s.hasEntry n = false → n ∈ outletNumbers → s.inUse n = true → (s.outlet n).adopted = true →
    (s.outlet n).releasing = false → (s.outlet n).service = .inService → (s.outlet n).commanded = .opened →
    s.phaseLost (s.phaseOf n) = true → u.hasEntry n = false ∧ (u.outlet n).lineLost = true)

/-- What the taking of shed list entries in list order makes of a state, with `now` the list left: at the restore of a
branch (R173) and at a deassertion of the external shed input (R176). A present drop hold does not keep a LENT outlet
out of the queue: the model's choice (log 44). -/
def State.restored (s u : State) (mode : RestoreMode) (was now : List ShedEntry) : Prop :=
  (mode = .manual → u.slots = s.slots) ∧
  ∀ e ∈ was,
    (e.kind = .load → mode = .manual → e.outlets ≠ [] →
      (∀ d ∈ was, d.kind ≠ .load → ∀ n ∈ d.outlets, n ∉ e.outlets) → e ∈ now) ∧
    (∀ i l, e.kind = .load → mode = .auto → e.victim = .slot i → s.load i = some l →
      (∀ d ∈ u.shedEntries, d.victim ≠ .slot i) ∧
      (∃ m, u.load i = some m ∧ m.wantedOn = true ∧ m.state ≠ .shed ∧
        ((∃ n ∈ l.outlets, s.insertable n (.bound i)) → m.state = .starting)) ∧
      ∀ n ∈ l.outlets, n ∈ outletNumbers → (u.outlet n).shed = false ∧
        (s.insertable n (.bound i) → u.queued n (.bound i) l.prio .restore s.now)) ∧
    (∀ i l n, e.kind ≠ .load → e.victim = .slot i → s.load i = some l → n ∈ e.outlets →
      (s.outlet n).owner = .bound i → s.restoredOutlet u e.victim n (.bound i) l.prio) ∧
    ∀ tag n k p, e.kind ≠ .load → e.victim = .home tag → n ∈ e.outlets → (s.outlet n).owner = .lent tag k p →
      s.restoredOutlet u e.victim n (.lent tag k p) p

/-- The order in which an external shed takes its victims: slots ascending, then home tags ascending (R175). -/
def Victim.before : Victim → Victim → Prop
  | .slot i, .slot j => i < j
  | .slot _, .home _ => True
  | .home _, .slot _ => False
  | .home t, .home u => t.toNat < u.toNat

/-! ### The cold-start decision (R20) -/

/-- The load awaits adoption and every local outlet it has is adopted (R20). -/
def State.decidable (s : State) (l : Load) : Prop :=
  l.awaiting = true ∧ ∀ n ∈ l.outlets, (s.outlet n).adopted = true

/-- What the cold-start decision makes of the load `l` in slot `i`, whose outlets are all adopted: the record `m` by
the first row of R20's table that matches. An outlet counts as closed by its commanded position at the decision
(log 32). -/
def State.decidedAs (s u : State) (i : Nat) (l m : Load) : Prop :=
  let closed := fun n => (s.outlet n).commanded = .closed
  let lost := fun n => (s.outlet n).lineLost = true
  let starts :=
    m.wantedOn = true ∧
    (∀ n ∈ l.outlets, s.insertable n (.bound i) → ¬ lost n →
      u.queued n (.bound i) l.prio .startup s.now ∧ m.state = .starting) ∧
    (∀ n ∈ l.outlets, lost n → u.hasEntry n = s.hasEntry n) ∧
    ((∀ n ∈ l.outlets, closed n ∨ lost n) →
      (∀ n ∈ l.outlets, s.hasEntry n = false ∧ (s.outlet n).switching ≠ .closing) →
      (∀ o, l.order = some o → o.kind ≠ .raise) → (∃ n ∈ l.outlets, closed n) ∨ l.peers ≠ [] →
      m.state = .on ∧ m.powerTime = some s.now)
  m.awaiting = false ∧
  if ∀ n ∈ l.outlets, closed n then
    m = { l with
      state := .on, awaiting := false, wantedOn := true, qReason := none, powerTime := some s.now
      watch := match l.watchPolicy with
        | none => Watch.stopped
        | some p => { Watch.stopped with sub := .boot, boot := some (s.now + p.grace * 100000) }
      postCycleBoot := false, startRestored := false }
  else if ∃ n ∈ l.outlets, closed n then starts
  else if l.pop = .on ∨ (l.pop = .last ∧ l.wantedOn = true) then
    if (∀ n ∈ l.outlets, lost n) ∧ l.peers = [] then
      m.state = .dark ∧ m.wantedOn = true ∧ hasNotice m.notices .dark = true ∧ m.watch = Watch.stopped
    else starts
  else m.state = .unpowered ∧ m.wantedOn = false ∧ m.watch = Watch.stopped ∧
    ∀ n ∈ l.outlets, (u.outlet n).lineLost = false ∧ u.hasEntry n = s.hasEntry n

/-! ### Commands by the fields they can change -/

/-- COLD_RESET (R17). -/
def isColdReset : Instr → Bool | .coldReset _ _ _ _ => true | _ => false
/-- The commands that can change a setting (R13, R16). -/
def changesSettings : Instr → Bool | .configure _ _ => true | c => isColdReset c
/-- The commands that can change the Image Store (R209). -/
def changesStore : Instr → Bool | .save _ _ => true | .saveEnd _ _ => true | c => isColdReset c
/-- The commands that can change a phase at the Metering Engine (R156 to R160). -/
def changesLines : Instr → Bool
  | .windowEnd _ _ => true | .phaseCrossing _ _ _ _ => true | .halfCycleTimeout _ _ => true
  | .missedCrossingCheck _ _ => true | .goodRunComplete _ _ => true | .firstJudgementLimit _ _ => true
  | c => isColdReset c
/-- The commands that can change the running window or the branch figures (R152, R155). -/
def changesMeter : Instr → Bool
  | .windowEnd _ _ => true | .phaseCrossing _ _ _ _ => true | .halfCycleTimeout _ _ => true
  | c => changesSettings c
/-- The commands that can change an outlet's figures, energy total or residue (R153, R154, R164). -/
def changesFigures : Instr → Bool | .windowEnd _ _ => true | .meter _ _ => true | c => changesSettings c
/-- The commands that can change the first-fault capture (R148, R150). -/
def changesCapture : Instr → Bool
  | .closeConfirmWindowEnd _ _ => true | .openConfirmWindowEnd _ _ => true | .windowEnd _ _ => true
  | .faults _ _ => true | c => isColdReset c
/-- The commands that can lower an attention flag (R206). -/
def lowersFlags : Instr → Bool | .attention _ _ => true | c => isColdReset c
/-- The commands that can change the link's presence, the announcement or the timers of HELLO (R182 to R184). -/
def changesPresence : Instr → Bool
  | .helloSend _ => true | .hello _ _ _ _ => true | .silenceExpiry _ => true | c => changesSettings c
/-- The commands that can move the patrol (R144). -/
def changesPatrol : Instr → Bool | .patrolTick _ => true | c => changesSettings c
/-- The commands that can start the drip timer from zero (R88). -/
def changesDrip : Instr → Bool | .dripExpiry _ => true | c => changesSettings c
/-- The commands that can move the Command Port (R200 to R204). -/
def changesPort : Instr → Bool
  | .portReset _ => true | .portResetRelease _ => true | c => portCommand c || isColdReset c

/-! ### Steps -/

/-- One step answers a next state. -/
def Next (s t : State) : Prop := step s = .next t

/-- The states that steps lead to from a state. -/
inductive Leads (s : State) : State → Prop where
  | refl : Leads s s
  | step {t u : State} : Leads s t → Next t u → Leads s u

end Sys2Proof.Machine
end

