-- ==== Sys2Proof/Certificates/Slice0/Obligations.lean ====
section
/-! DEFINITION. What is to be proved of the model. A statement about a command speaks of `exec` at every settled
state (what every step leaves, O4); where a command makes queue entries, its own effect `u` is stated and the step
ends with `u.finish`, which judges the due gates (R121) and the attention line (R207). -/

section

open Sys2Proof Sys2Proof.Machine

/-! ### The step -/

/-- A step takes the command at the front of the queue and runs it with the queue's rest; on an empty queue the
timebase counts one step and nothing else changes (the model's choice, log 2). -/
def Obligations.StepRunsFrontCommand : Prop :=
  (∀ (c : Instr) (rest : List Instr) (s : State), s.pending = c :: rest →
    step s = exec c { s with pending := rest }) ∧
  ∀ s : State, s.pending = [] → step s = .next { s with now := s.now + 1 }

/-- Every command answers a next state at its moment, and leaves the queue's rest as it stands (log 1: a moment
already past is taken at the present one). -/
def Obligations.EveryCommandAnswersNext : Prop :=
  ∀ (c : Instr) (s : State),
    ∃ t, exec c s = .next t ∧ t.now = max s.now c.time ∧ t.pending = s.pending

/-! ### Invariants -/

/-- The machine after reset is settled and keeps every invariant stated below. -/
def Obligations.ResetKeepsInvariants : Prop :=
  State.reset.Settled ∧ State.reset.WithinCeilings ∧ State.reset.OutletsInRange ∧ State.reset.StrikesKept ∧
    State.reset.QueueOrdered ∧ State.reset.HalvesKept ∧ State.reset.PortHeldIdle ∧ State.reset.ListsOwned ∧
    State.reset.TagsDistinct

/-- Every step leaves nothing to judge, with the attention line where R207 puts it; and the end of a step, which judges
the due gates and the line, touches no port, setting, image, metering, patrol, capture or timer, and lowers no flag. -/
def Obligations.StepLeavesSettled : Prop :=
  (∀ s t : State, s.Settled → Next s t → t.Settled) ∧
  ∀ u : State,
    let f := u.finish
    f.work = Work.none ∧ f.attnLow = f.lineWanted ∧ f.now = u.now ∧ f.pending = u.pending ∧ f.port = u.port ∧
    f.settings = u.settings ∧ f.strap = u.strap ∧ f.store = u.store ∧ f.lines = u.lines ∧ f.meter = u.meter ∧
    f.patrol = u.patrol ∧ f.dripStart = u.dripStart ∧ f.capture = u.capture ∧ f.more = u.more ∧
    f.link.presence = u.link.presence ∧ ∀ g, u.flags.get g = true → f.flags.get g = true

/-- No step takes a branch's reservation sum above its admit ceiling (R8). -/
def Obligations.StepKeepsCeilings : Prop :=
  ∀ s t : State, s.WithinCeilings → Next s t → t.WithinCeilings

/-- Every step keeps the queue in its order (R116), with at most one entry for an outlet (R115). -/
def Obligations.StepKeepsQueueOrder : Prop :=
  ∀ s t : State, s.QueueOrdered → Next s t → t.QueueOrdered

/-- Every step keeps the ranges of the operate times and counts of every outlet (R132), the strike bound of every
record (R83), the half-cycles of the reference half-period in range (R156), and the port IDLE while PRST_N is low
(R200, R204). -/
def Obligations.StepKeepsRanges : Prop :=
  ∀ s t : State, Next s t →
    (s.OutletsInRange → t.OutletsInRange) ∧ (s.StrikesKept → t.StrikesKept) ∧ (s.HalvesKept → t.HalvesKept) ∧
    (s.PortHeldIdle → t.PortHeldIdle)

/-- Every step keeps every local outlet of every record BOUND to the record's slot with the record's reservation
(R24). -/
def Obligations.StepKeepsListsOwned : Prop :=
  ∀ s t : State, s.ListsOwned → Next s t → t.ListsOwned

/-- Every step keeps load tags and aliases nonzero and pairwise distinct (R26). -/
def Obligations.StepKeepsTagsDistinct : Prop :=
  ∀ s t : State, s.TagsDistinct → Next s t → t.TagsDistinct

/-! ### Frames of every command -/

/-- Settings change by CONFIGURE and at a cold reset only, the straps at a cold reset only, the Image Store by SAVE, its
end and a cold reset only; the first-fault capture changes by a fault, by FAULTS and at a cold reset only; a raised
flag is lowered by ATTENTION and at a cold reset only (R206). -/
def Obligations.ConfigurationAndFlagFrame : Prop :=
  ∀ (c : Instr) (s t : State), exec c s = .next t →
    (changesSettings c = false → t.settings = s.settings) ∧
    (isColdReset c = false → t.strap = s.strap ∧ t.restoredAt = s.restoredAt) ∧
    (changesStore c = false → t.store = s.store) ∧
    (changesCapture c = false → t.capture = s.capture ∧ t.more = s.more) ∧
    (lowersFlags c = false → ∀ f, s.flags.get f = true → t.flags.get f = true)

/-- The phases, the running window and the window figures change only by the commands of the Metering Engine, by
METER with its clear option, by CONFIGURE and at a cold reset; presence, announcement and HELLO timers, the patrol, the
drip timer and the Command Port only by the commands named. -/
def Obligations.MeteringPortAndTimerFrame : Prop :=
  ∀ (c : Instr) (s t : State), exec c s = .next t →
    (changesLines c = false → t.lines = s.lines) ∧ (changesMeter c = false → t.meter = s.meter) ∧
    (changesFigures c = false → ∀ n,
      (t.outlet n).current = (s.outlet n).current ∧ (t.outlet n).power = (s.outlet n).power ∧
      (t.outlet n).offset = (s.outlet n).offset ∧ (t.outlet n).energy = (s.outlet n).energy ∧
      (t.outlet n).residue = (s.outlet n).residue) ∧
    (changesPresence c = false → t.link.presence = s.link.presence ∧ t.link.announce = s.link.announce ∧
      t.link.silence = s.link.silence ∧ t.link.nextHello = s.link.nextHello ∧
      t.link.side = s.link.side) ∧
    (changesPatrol c = false → t.patrol = s.patrol) ∧
    (changesDrip c = false → t.dripStart = s.dripStart) ∧
    (changesPort c = false → t.port = s.port)

/-! ### The Command Port -/

/-- PORT_RESET empties the port and changes nothing else; its release changes PRST_N alone; a held request that ends
when the port no longer executes it leaves the port as it stands. -/
def Obligations.PortResetEmptiesPort : Prop :=
  ∀ (t : Nat) (s : State), s.Settled →
    exec (.portReset t) s =
      .next { s.advance t with port := { state := .idle, prstLow := true, miso := .nothing } } ∧
    exec (.portResetRelease t) s = .next { s.advance t with port := { s.port with prstLow := false } } ∧
    ∀ (k : ReqKind) (i : Nat) (status : Status) (body : AnswerBody),
      s.port.state ≠ .executing k i → s.endHeld k i status body = s

/-- Read and ignored transactions: what MISO carries, when the answer is taken, and the flag PORT (R200). While
PRST_N is low every transaction is ignored. The bytes that MISO carries, place by place: 0x00 throughout, or 0x00 and
then 0xEE (NOT_READY) and 0x00, or 0x00 and then the answer frame of R215, written out for an empty body and for
LOOKUP's (other bodies and what follows the frame are free values: log 49). -/
def Obligations.TransactionsByFirstByte : Prop :=
  (∀ s : State,
    (s.port.miso = .nothing → ∀ place, s.misoByte place = 0x00) ∧
    (s.port.miso = .notReady → s.misoByte 0 = 0x00 ∧ s.misoByte 1 = 0xEE ∧ ∀ place, 2 ≤ place → s.misoByte place = 0x00) ∧
    ∀ a : Answer, s.port.miso = .answer a →
      let frame := fun (body : List Byte) =>
        let covered := a.kind :: a.status.code :: BitVec.ofNat 8 body.length :: body
        0x3C :: covered ++ bytes2 (crc16 covered).toNat
      s.misoByte 0 = 0x00 ∧ (∀ place b, a.frame[place]? = some b → s.misoByte (place + 1) = b) ∧
      a.frame = frame a.body.bytes ∧ (a.body = .nothing → a.body.bytes = []) ∧
      (∀ bytes, a.body = .lookup bytes → a.body.bytes = bytes) ∧
      ((∀ bytes, a.body ≠ .lookup bytes) → a.body.bytes.length ≤ 250)) ∧
  ∀ (t : Nat) (s : State), s.Settled →
    (s.port.prstLow = true → ∀ c, c.time = t → (writeFrame c = true ∨ (∃ k, c = .readTransaction t k) ∨
        ∃ b, c = .ignoredTransaction t b) →
      exec c s = .next { s.advance t with port := { s.port with miso := .nothing } }) ∧
    (s.port.prstLow = false →
      (∀ (complete : Bool) (a : Answer), s.port.state = .ready a →
        exec (.readTransaction t complete) s =
          .next { s.advance t with
            port := { state := if complete then .idle else .ready a, prstLow := false, miso := .answer a } }) ∧
      (∀ complete : Bool, (∀ a, s.port.state ≠ .ready a) →
        exec (.readTransaction t complete) s =
          .next { s.advance t with port := { s.port with miso := .notReady } }) ∧
      (∀ b : Byte, b ≠ 0xC3 → b ≠ 0x5A →
        exec (.ignoredTransaction t b) s =
          .next (({ s.advance t with port := { s.port with miso := .nothing } } : State).raiseFlag .port).judgeLine))

/-- A write frame that ends while the port is EXECUTING is dropped and PORT is raised; the executing request, its
held answer and everything else stand (R203): OVERRUN, and every other command that is such a frame, its first byte
0xC3 (R200). -/
def Obligations.OverrunDropsFrame : Prop :=
  (∀ (t : Nat) (s : State), s.Settled → s.port.prstLow = false → s.executing = true →
    exec (.overrun t) s =
      .next (({ s.advance t with port := { s.port with miso := .nothing } } : State).raiseFlag .port).judgeLine) ∧
  ∀ (c : Instr) (s : State), writeFrame c = true → s.Settled → s.port.prstLow = false → s.executing = true →
    exec c s =
      .next (({ s.advance c.time with port := { s.port with miso := .nothing } } : State).raiseFlag .port).judgeLine

/-- R201, R2: a request whose body does not fit its kind is refused BAD_REQUEST and changes nothing but the port, before
its tag, its expected revision or the state is judged, which is the model's choice (DESIGN CHOICE, log 53); a
write frame (its first byte 0xC3, R200) that ends before its length, its body or its CRC, that has a length above 250,
or whose CRC does not match, is answered BAD_FRAME with the kind received and raises PORT; and a frame of unknown kind
is answered BAD_REQUEST. A BAD_FRAME whose bytes do not begin with 0xC3 is no write frame and changes nothing but the
time: log 3. -/
def Obligations.UnfitBodiesRefused : Prop :=
  (∀ (t : Nat) (k : ReqKind) (c : Instr) (s : State), Unfit t k c → s.Settled → s.Free →
    exec c s = .next ((s.advance t).answered k .badRequest .nothing)) ∧
  (∀ (t : Nat) (bytes : List Byte) (s : State), s.Settled → bytes.head? ≠ some 0xC3 →
    exec (.badFrame t bytes) s = .next (s.advance t)) ∧
  ∀ (t : Nat) (s : State), s.Settled → s.Free →
    (∀ rest : List Byte,
      (match rest with
        | kind :: len :: more =>
          250 < len.toNat ∨ more.length < len.toNat + 2 ∨
            (more.drop len.toNat).take 2 ≠ bytes2 (crc16 (kind :: len :: more.take len.toNat)).toNat
        | _ => True) →
      exec (.badFrame t (0xC3 :: rest)) s =
        .next (((s.advance t).answers (rest.headD 0) .badFrame .nothing).raiseFlag .port).judgeLine) ∧
    ∀ kind : Byte, kind = 0 ∨ 23 < kind.toNat →
      exec (.unknownRequestKind t kind) s = .next ((s.advance t).answers kind .badRequest .nothing)

/-! ### The Load Table -/

/-- R28: a tag operand of 0 is refused BAD_REQUEST, a tag that does not resolve UNKNOWN_TAG, and an expected revision
other than the record's STALE with the present revision; and a load tag and its aliases name the load with the same
effect. These are requests whose body fits its kind: the place of R28 beside a body that does not fit is the model's
choice (log 53, UnfitBodiesRefused), and an AMEND with an undefined policy code is among those judged here. R50: a power
request for a record awaiting adoption is refused BUSY, and none leaves the port EXECUTING. -/
def Obligations.NamedRequestsJudged : Prop :=
  (∀ (t : Nat) (k : ReqKind) (expected : Option Nat) (f : Tag → Instr) (s : State),
    NamesLoad t k expected f → s.Settled → s.Free →
    exec (f 0) s = .next ((s.advance t).answered k .badRequest .nothing) ∧
    (∀ g : Tag, g ≠ 0 → s.resolve g = none →
      exec (f g) s = .next ((s.advance t).answered k .unknownTag .nothing)) ∧
    (∀ (g : Tag) (i : Nat) (l : Load) (r : Nat), s.names g i l → expected = some r → r ≠ l.revision →
      exec (f g) s = .next ((s.advance t).answered k .stale (.revision l.revision))) ∧
    (∀ (i : Nat) (l : Load), s.TagsDistinct → s.load i = some l → ∀ g ∈ l.tags,
      s.resolve g = some i ∧ exec (f g) s = exec (f l.tag) s)) ∧
  ∀ (t i : Nat) (k : ReqKind) (f : Tag → Instr) (g : Tag) (l : Load) (s : State), PowerRequest t k f → s.Settled →
    s.Free → s.names g i l →
    (l.awaiting = true → exec (f g) s = .next ((s.advance t).answered k .busy .nothing)) ∧
    ∀ u, exec (f g) s = .next u → ∃ st, u.shows k st .nothing

/-- R9: the ranks of a claim, the first that fails giving the refusal; what a passed claim gives each outlet; and the
refusal of each rank to the Load Table Unit and to the partner. -/
def Obligations.ClaimJudgedByRanks : Prop :=
  (∀ (s : State) (es : List OutletRes),
    (if (∃ e ∈ es, ¬ (1 ≤ e.outlet ∧ e.outlet ≤ 8 * s.branchCount)) ∨ ¬ (es.map (·.outlet)).Nodup then
      s.claimFails es false = some .number
    else if ∃ e ∈ es, ¬ (1 ≤ e.res ∧ e.res ≤ 10 * s.rating) then s.claimFails es false = some .range
    else if ∃ e ∈ es, (s.outlet e.outlet).adopted = false then s.claimFails es false = some .notAdopted
    else if ∃ e ∈ es, (s.outlet e.outlet).owner ≠ .free ∨ (s.outlet e.outlet).releasing = true then
      s.claimFails es false = some .taken
    else if ∃ e ∈ es, (s.outlet e.outlet).service = .failed then s.claimFails es false = some .failed
    else if ∃ e ∈ es, s.ceiling (branchOf e.outlet) < s.branchSum (branchOf e.outlet) +
        ((es.filter fun x => branchOf x.outlet = branchOf e.outlet).map (·.res)).sum then
      s.claimFails es false = some .budget
    else s.claimFails es false = none) ∧
    ∀ (owner : Owner) (n : Nat), 1 ≤ n → n ≤ 48 → (es.map (·.outlet)).Nodup →
      (∀ e ∈ es, e.outlet = n →
        (s.take es owner).outlet n = { s.outlet n with owner := owner, reservation := e.res }) ∧
      ((∀ e ∈ es, e.outlet ≠ n) → (s.take es owner).outlet n = s.outlet n)) ∧
  ([ClaimFail.number, .range, .notAdopted, .taken, .failed, .budget].map fun f => (f.status, f.reason)) =
    [(.badRequest, .outletTaken), (.badRequest, .overBudget), (.busy, .outletTaken), (.outletTaken, .outletTaken),
     (.outletFailed, .outletFailed), (.overBudget, .overBudget)]

/-- R24, R25: the form and the ranges of what an ADMIT carries. R29, R30: the ranks of ADMIT, and its repeats (an outlet
out of use is judged by the claim, and not by the list's form: log 15). A repeat carries what the record holds, its
lists equal in any order, once the defaults are filled in (R30). -/
def Obligations.AdmitJudgedByRanks : Prop :=
  (∀ (rating : Nat) (r : AdmitReq), admitOk rating r = true ↔
    r.tag ≠ 0 ∧ localsFit rating r.locals ∧ peersFit r.peers ∧ (∀ p, r.prio = some p → p ≤ 3) ∧
    (∀ w, r.watch = some w → watchFits w) ∧ ∀ c, r.cycle = some c → cycleFits c) ∧
  (∀ xs ys : List OutletRes, xs.Nodup → ys.Nodup → (sameEntries xs ys = true ↔ ∀ e, e ∈ xs ↔ e ∈ ys)) ∧
  (∀ (r : AdmitReq) (l : Load), admitRepeats r l = true ↔
    sameEntries l.locals r.locals = true ∧ sameEntries l.peers r.peers = true ∧ l.prio = r.prio.getD 1 ∧
    l.pop = r.pop.getD .last ∧ l.watchPolicy = r.watch ∧
    l.cyclePolicy = r.cycle.getD { dwell := 10, auto := true, threshold := 3, action := .leaveOn }) ∧
  ∀ (t : Nat) (r : AdmitReq) (s : State), s.Settled → s.Free →
    let refused := fun st => exec (.admitLoad t (.fits r)) s = .next ((s.advance t).answered .admitLoad st .nothing)
    (admitOk s.rating r = false → refused .badRequest) ∧
    (admitOk s.rating r = true →
      (∀ i l, r.expectedNone = false → s.slotOfTag r.tag = some i → s.load i = some l → admitRepeats r l = true →
        if l.state = .admitting ∨ l.state = .retiring then refused .busy else refused .done) ∧
      ((r.expectedNone = true ∨ s.slotOfTag r.tag = none ∨
          ∃ i l, s.slotOfTag r.tag = some i ∧ s.load i = some l ∧ admitRepeats r l = false) →
        if (s.resolve r.tag).isSome then refused .tagInUse
        else if s.emptySlot = none then refused .tableFull
        else if r.peers ≠ [] ∧ s.link.presence ≠ .up then refused .peerDown
        else ∀ f, s.claimFails r.locals false = some f → refused f.status))

/-- An ADMIT that passes its ranks creates its record in the lowest empty slot with the starting values of R31; with
peer outlets the record is ADMITTING, a BIND goes out and the answer is held (R32). -/
def Obligations.AdmitCreatesRecord : Prop :=
  ∀ (t i : Nat) (r : AdmitReq) (s : State), s.Settled → s.Free → s.admits r → s.emptySlot = some i →
    let c := if 65535 ≤ (s.slot i).counter then 1 else (s.slot i).counter + 1
    let u := (s.advance t).take r.locals (.bound i)
    let l : Load :=
      { tag := r.tag, revision := c, locals := r.locals, peers := r.peers, prio := r.prio.getD 1,
        pop := r.pop.getD .last, wantedOn := r.pop.getD .last = .on, watchPolicy := r.watch,
        cyclePolicy := r.cycle.getD { dwell := 10, auto := true, threshold := 3, action := .leaveOn }, aliases := [],
        pinned := false, state := .unpowered, qReason := none, strikes := 0, notices := 0, staged := none,
        postCycleBoot := false, awaiting := false, lastOutcome := none, powerTime := none, startRestored := false,
        watch := Watch.stopped, order := none, amendSeq := none }
    (r.peers = [] →
      exec (.admitLoad t (.fits r)) s =
        .next ((u.setSlot i { counter := c, load := some l }).answered .admitLoad .done .nothing)) ∧
    (r.peers ≠ [] →
      exec (.admitLoad t (.fits r)) s =
        .next ((((u.setSlot i
          { counter := c,
            load := some { l with
              state := .admitting
              order := some { kind := .bind, number := s.link.counter, deadline := max s.now t + 100000,
                              sender := .admission } } }).drawn).transmit
          (.bind r.tag s.link.counter r.peers l.prio)).holding .admitLoad i))

/-- R24, R25, R34: the form and the ranges of what an AMEND carries, a named policy value among R25's included. R34: the ranks of AMEND, after R28 (corners:
log 15). -/
def Obligations.AmendJudgedByRanks : Prop :=
  (∀ (rating : Nat) (r : AmendReq), amendOk rating r = true ↔
    let p := r.policy
    let policy := p.prio ≠ none ∨ p.pop ≠ none ∨ p.watch ≠ none ∨ p.cycle ≠ none
    (r.locals ≠ none ∨ r.peers ≠ none ∨ policy) ∧ (r.peers ≠ none → r.locals = none ∧ ¬ policy) ∧
    (∀ es, r.locals = some es → localsFit rating es) ∧ (∀ es, r.peers = some es → peersFit es) ∧
    (∀ k, p.prio = some k → k ≤ 3) ∧ (∀ w, p.watch = some (.replace w) → watchFits w) ∧
    (∀ c, p.cycle = some c → cycleFits c) ∧ r.undefinedCode = false) ∧
  ∀ (t i : Nat) (r : AmendReq) (l : Load) (s : State), s.Settled → s.Free → s.names r.tag i l →
    (∀ v, r.expected = some v → v = l.revision) →
    let refused := fun st => exec (.amend t (.fits r)) s = .next ((s.advance t).answered .amend st .nothing)
    if amendOk s.rating r = false then refused .badRequest
    else if l.state = .admitting ∨ l.state = .retiring then refused .wrongState
    else if l.awaiting = true ∧ (r.locals.isSome ∨ r.peers.isSome) then refused .busy
    else if l.state ≠ .unpowered ∧ (r.peers.isSome ∨ ∃ es, r.locals = some es ∧ sameOutlets l.locals es = false) then
      refused .wrongState
    else if r.locals.isSome ∧ l.stages = true then refused .wrongState
    else if l.state = .quarantined ∧ ∃ c, r.policy.cycle = some c ∧ c.threshold < l.strikes then refused .wrongState
    else if s.link.presence ≠ .up ∧ ∃ es, r.peers = some es ∧ sameEntries l.peers es = false then refused .peerDown
    else (s.advance t).amendFails r l = none ∧
      ∀ es st, r.locals = some es → (s.advance t).exchange i l.locals es = .error st → refused st

/-- A passed AMEND without a local list: staged while the staging condition holds (R38), a new policy applied at once
with the next revision (R35, R37), an equal peer list applied as an amendment that changes nothing, and a peer list
that differs begun as a sequence of orders (R36). The policy fields carried replace the record's, and a strike threshold
below the count clips it (R37); a watch policy carried is taken up in ON by R78's rows, be it equal to the present one
(log 35). -/
def Obligations.AmendCarriedOut : Prop :=
  (∀ (t i : Nat) (r : AmendReq) (l : Load) (s : State), s.Settled → s.Free → s.names r.tag i l →
    (∀ v, r.expected = some v → v = l.revision) → s.amendFails r l = none → r.locals = none →
    let v := s.advance t
    let c := if 65535 ≤ (s.slot i).counter then 1 else (s.slot i).counter + 1
    (r.peers = none → l.stages = true →
      exec (.amend t (.fits r)) s =
        .next ((v.setLoad i { l with staged := some r.policy }).answered .amend .staged (.revision l.revision))) ∧
    (r.peers = none → l.stages = false →
      exec (.amend t (.fits r)) s =
        .next ((v.setSlot i
          { counter := c, load := some { Load.applied l r.policy true v.now with revision := c } }).answered
          .amend .done .nothing)) ∧
    (∀ es, r.peers = some es → sameEntries l.peers es = true →
      exec (.amend t (.fits r)) s =
        .next ((v.setSlot i { counter := c, load := some { l with revision := c } }).answered .amend .done .nothing)) ∧
    (∀ es, r.peers = some es → sameEntries l.peers es = false →
      let q := some { carried := es, before := l.peers }
      let o := fun k => some { kind := k, number := s.link.counter, deadline := v.now + 100000, sender := .amendment }
      if l.peers = [] then
        exec (.amend t (.fits r)) s =
          .next ((((v.setLoad i { Load.inState l .admitting with amendSeq := q, order := o .bind }).drawn).transmit
            (.bind l.tag s.link.counter es l.prio)).holding .amend i)
      else
        exec (.amend t (.fits r)) s =
          .next ((((v.setLoad i { Load.inState l .retiring with amendSeq := q, order := o .unbind }).drawn).transmit
            (.unbind l.tag s.link.counter)).holding .amend i))) ∧
  ∀ (l : Load) (p : PolicyChange) (take : Bool) (now : Nat),
    let m := Load.applied l p take now
    m.prio = p.prio.getD l.prio ∧ m.pop = p.pop.getD l.pop ∧ m.cyclePolicy = p.cycle.getD l.cyclePolicy ∧
    m.watchPolicy = (match p.watch with
      | some (.replace w) => some w
      | some .remove => none
      | none => l.watchPolicy) ∧
    m.strikes = (match p.cycle with
      | some c => min l.strikes c.threshold
      | none => l.strikes) ∧
    m.wantedOn = l.wantedOn ∧ m.state = l.state ∧ m.locals = l.locals ∧ m.peers = l.peers ∧ m.notices = l.notices ∧
    (take = false ∨ p.watch = none ∨ l.state ≠ .on → m.watch = l.watch ∧ m.postCycleBoot = l.postCycleBoot) ∧
    ∀ w, take = true → p.watch = some w → l.state = .on →
      (m.postCycleBoot = true ↔ l.postCycleBoot = true ∧ m.watch.sub = .boot) ∧
      m.watch = match w, l.watch.sub with
        | .remove, _ => Watch.stopped
        | .replace w, .inactive => { Watch.stopped with sub := .boot, boot := some (now + w.grace * 100000) }
        | .replace w, .boot => { Watch.stopped with sub := .boot, boot := some (now + w.grace * 100000) }
        | .replace w, .live => { Watch.stopped with
            sub := .live, beat := if w.mode = .flat then none else some (now + w.interval * w.miss * 100000) }
        | .replace w, .suspect => { Watch.stopped with
            sub := .live, beat := if w.mode = .flat then none else some (now + w.interval * w.miss * 100000) }
        | .replace _, .hung => l.watch

/-- R11, R35: an exchange is refused WRONG_STATE for a given-up outlet that is not settled open; one that only lowers
reservations passes; and a passed one gives the gained outlets to the load, frees the given-up ones and re-reserves
the kept ones, and AMEND answers DONE with the new list in the record. That the given-up outlets are judged before the
claim of the gained ones is the model's reading (log 15). -/
def Obligations.ExchangeOfLocals : Prop :=
  ∀ (t i : Nat) (r : AmendReq) (l : Load) (es : List OutletRes) (s : State), s.Settled → s.Free →
    s.names r.tag i l → (∀ v, r.expected = some v → v = l.revision) → s.amendFails r l = none →
    r.locals = some es → s.ListsOwned → (∀ e ∈ l.locals ++ es, e.outlet ∈ outletNumbers) →
    let v := s.advance t
    ((∃ n ∈ givenUp l.locals es, (s.outlet n).settledOpen = false) →
      exec (.amend t (.fits r)) s = .next (v.answered .amend .wrongState .nothing)) ∧
    ((∀ e ∈ es, ∃ x ∈ l.locals, x.outlet = e.outlet ∧ e.res ≤ x.res) → sameOutlets l.locals es = true →
      ∃ u, v.exchange i l.locals es = .ok u) ∧
    ∀ u, v.exchange i l.locals es = .ok u →
      ∃ w : State, exec (.amend t (.fits r)) s = .next w.finish ∧
        w.port = (v.answered .amend .done .nothing).port ∧
        (∃ m, w.load i = some m ∧ m.locals = es ∧ m.revision = nextRevision (s.slot i).counter ∧
          m.state = l.state ∧ m.prio = r.policy.prio.getD l.prio) ∧
        (∀ n ∈ givenUp l.locals es, (w.outlet n).owner = .free ∧ (w.outlet n).reservation = 0) ∧
        (∀ e ∈ es, (w.outlet e.outlet).owner = .bound i ∧ (w.outlet e.outlet).reservation = e.res)

/-- R40 to R42: the ranks of RETIRE; the removal of a record; and the UNBIND that precedes it with the link UP. A pinned
record in ADMITTING or RETIRING is refused PINNED, by the rank order, where R33 says WRONG_STATE: log 33. That the
entries of a load that goes to RETIRING stay in the queue is the model's reading (R124, R129: log 34). -/
def Obligations.RetireJudgedAndCarriedOut : Prop :=
  ∀ (t i : Nat) (r : RetireReq) (l : Load) (s : State), s.Settled → s.Free → s.names r.tag i l →
    (∀ v, r.expected = some v → v = l.revision) → s.ListsOwned → s.TagsDistinct →
    let v := s.advance t
    let refused := fun st => exec (.retire t (.fits r)) s = .next (v.answered .retire st .nothing)
    if l.pinned = true then refused .pinned
    else if l.awaiting = true then refused .busy
    else if l.state ≠ .unpowered ∧ l.state ≠ .shed ∧ l.state ≠ .quarantined then refused .wrongState
    else if ∃ n ∈ l.outlets, (s.outlet n).commanded = .closed ∨ (s.outlet n).switching ≠ .idle then refused .wrongState
    else if l.peers = [] ∨ s.link.presence ≠ .up then
      ∃ u : State, exec (.retire t (.fits r)) s = .next u.finish ∧
        u.shows .retire (if l.peers = [] then .done else .peerDown) .nothing ∧
        u.slot i = { counter := (s.slot i).counter, load := none } ∧ (∀ j, j ≠ i → u.slot j = s.slot j) ∧
        (∀ n ∈ l.outlets, (u.outlet n).owner = .free ∧ (u.outlet n).reservation = 0 ∧ (u.outlet n).shed = false ∧
          (u.outlet n).lineLost = false ∧ u.hasEntry n = false) ∧
        (∀ g ∈ l.tags, u.resolve g = none) ∧ (∀ e ∈ u.shedEntries, e.victim ≠ .slot i) ∧ u.flags = s.flags
    else
      ∃ u : State, exec (.retire t (.fits r)) s = .next u.finish ∧ u.port.state = .executing .retire i ∧
        (∃ m, u.load i = some m ∧ m.state = .retiring ∧
          m.order = some { kind := .unbind, number := s.link.counter, deadline := v.now + 100000, sender := .retire }) ∧
        u.link.tx = s.link.tx ++ [.unbind l.tag s.link.counter] ∧
        (∀ n ∈ l.outlets, (u.outlet n).shed = false ∧ (u.outlet n).owner = .bound i ∧
          (u.outlet n).settledOpen = true) ∧ u.queue = s.queue ∧
        (∀ e ∈ u.shedEntries, e.victim ≠ .slot i)

/-- R45: PIN is refused WRONG_STATE in CYCLING, and sets the pinned field alone in any other state. -/
def Obligations.PinSetsPinned : Prop :=
  ∀ (t i : Nat) (g : Tag) (l : Load) (s : State), s.Settled → s.Free → s.names g i l →
    (l.state = .cycling →
      exec (.pin t (.fits g)) s = .next ((s.advance t).answered .pin .wrongState .nothing)) ∧
    (l.state ≠ .cycling →
      ∃ u : State, exec (.pin t (.fits g)) s = .next u.finish ∧ u.shows .pin .done .nothing ∧
        u.load i = some { l with pinned := true } ∧ (∀ j, j ≠ i → u.load j = s.load j) ∧
        u.outlets = s.outlets ∧ u.queue = s.queue ∧ u.flags = s.flags)

/-- R46, R47: the ranks of ALIAS add, after which the alias stands at the end of the load's list and resolves to the
load, for a BEAT as for a request; and of ALIAS remove, after which the list closes up and the alias is unknown. -/
def Obligations.AliasesAddedAndRemoved : Prop :=
  ∀ (t i : Nat) (g a : Tag) (l : Load) (s : State), s.Settled → s.Free → s.names g i l →
    let v := s.advance t
    let add := Instr.aliasAdd t (.fits { tag := g, other := a })
    let remove := Instr.aliasRemove t (.fits { tag := g, other := a })
    let answered := fun c st => exec c s = .next (v.answered .aliases st .nothing)
    let more := v.setLoad i { l with aliases := l.aliases ++ [a] }
    let less := v.setLoad i { l with aliases := l.aliases.filter fun b => b != a }
    (if a = 0 then answered add .badRequest
    else if l.state = .retiring then answered add .wrongState
    else if (s.resolve a).isSome then answered add .tagInUse
    else if 64 ≤ s.aliasCount ∨ 3 ≤ l.aliases.length then answered add .tableFull
    else exec add s = .next (more.answered .aliases .done .nothing) ∧ more.resolve a = some i ∧
      (more.beats [a]).2 = (1, 0)) ∧
    if l.state = .retiring then answered remove .wrongState
    else if a ∉ l.aliases then answered remove .unknownTag
    else s.TagsDistinct →
      exec remove s = .next (less.answered .aliases .done .nothing) ∧ less.resolve a = none ∧
      (less.beats [a]).2 = (0, 1) ∧ less.aliasCount + 1 = s.aliasCount

/-- R43, R44, R67: LOOKUP answers the 92 bytes of R215, every field of the record in its place (the codes of the
auto-cycle byte are the model's choice, log 39), and changes nothing. LIST returns up to 8 occupied slots from the first
slot upward, each with its state as LOOKUP shows it, and says whether more follow, and changes nothing; NOTICES does so for the loads with notices from slot 0,
empties the sets it returns and no other, and leaves LOAD_NOTICE as it stands. -/
def Obligations.TableIsRead : Prop :=
  ∀ (t : Nat) (s : State), s.Settled → s.Free →
    let v := s.advance t
    (∀ (i : Nat) (g : Tag) (l : Load), s.names g i l →
      ∃ bytes : List Byte,
        exec (.lookup t (.fits g)) s = .next (v.answered .lookup .done (.lookup bytes)) ∧
        s.lookupSpells i l bytes) ∧
    (∀ first : Nat, 40 ≤ first → exec (.list t (.fits first)) s = .next (v.answered .list .badRequest .nothing)) ∧
    (∀ first : Nat, first < 40 →
      ∃ (es : List ListEntry) (more : Bool),
        exec (.list t (.fits first)) s = .next (v.answered .list .done (.list es more)) ∧
        es.length ≤ 8 ∧ (es.map (·.slot)).Pairwise (· < ·) ∧
        (∀ e ∈ es, first ≤ e.slot ∧
          ∃ l, s.load e.slot = some l ∧ e.tag = l.tag ∧ s.showsState e.slot l e.shown ∧ e.revision = l.revision) ∧
        (∀ i, first ≤ i → (s.load i).isSome →
          (∃ e ∈ es, e.slot = i) ∨ (es.length = 8 ∧ ∀ e ∈ es, e.slot < i)) ∧
        (more = true ↔ ∃ i, first ≤ i ∧ (s.load i).isSome ∧ ∀ e ∈ es, e.slot < i)) ∧
    ∃ (u : State) (es : List NoticeEntry) (more : Bool),
      exec (.notices t (.fits ())) s = .next (u.answered .notices .done (.notices es more)) ∧
      es.length ≤ 8 ∧ (es.map (·.slot)).Pairwise (· < ·) ∧
      (∀ e ∈ es, ∃ l, s.load e.slot = some l ∧ e.tag = l.tag ∧ e.set = l.notices ∧ l.notices ≠ 0 ∧
        u.load e.slot = some { l with notices := 0 }) ∧
      (∀ i, (∀ e ∈ es, e.slot ≠ i) → u.load i = s.load i) ∧
      (∀ i l, s.load i = some l → l.notices ≠ 0 →
        (∃ e ∈ es, e.slot = i) ∨ (es.length = 8 ∧ ∀ e ∈ es, e.slot < i)) ∧
      (more = true ↔ ∃ i l, s.load i = some l ∧ l.notices ≠ 0 ∧ ∀ e ∈ es, e.slot < i) ∧
      u.outlets = s.outlets ∧ u.queue = s.queue ∧ u.flags = s.flags

/-! ### Power requests -/

/-- R51, R56: the ranks of POWER_ON, whose start is `State.start`, and of POWER_OFF, whose stop is `State.stop`; a cycle
is abandoned with its outcome before the stop. -/
def Obligations.PowerOnAndOffJudged : Prop :=
  ∀ (t i : Nat) (g : Tag) (l : Load) (s : State), s.Settled → s.Free → s.names g i l → l.awaiting = false →
    let v := s.advance t
    let on := Instr.powerOn t (.fits g)
    let off := Instr.powerOff t (.fits g)
    let answered := fun c k st => exec c s = .next (v.answered k st .nothing)
    (if l.state = .on ∨ l.state = .starting then answered on .powerOn .done
    else if l.state ≠ .unpowered ∧ l.state ≠ .shed ∧ l.state ≠ .dark then answered on .powerOn .wrongState
    else if ∀ n ∈ l.outlets, (s.outlet n).service = .failed then answered on .powerOn .outletFailed
    else exec on s = .next ((v.quiet.start i .powerOn).reply .powerOn (.answer .done .nothing)).finish) ∧
    if l.pinned = true then answered off .powerOff .pinned
    else if l.state = .unpowered ∨ l.state = .stopping then answered off .powerOff .done
    else if l.state = .admitting ∨ l.state = .retiring then answered off .powerOff .wrongState
    else if l.state = .cycling then
      exec off s = .next (((v.quiet.abandonPowerOff i).stop i).reply .powerOff (.answer .done .nothing)).finish ∧
      ∃ m o, ((v.quiet.abandonPowerOff i).stop i).load i = some m ∧ m.lastOutcome = some o ∧
        o.outcome = .abandoned .powerOff ∧ (m.state = .stopping ∨ m.state = .unpowered)
    else exec off s = .next ((v.quiet.stop i).reply .powerOff (.answer .done .nothing)).finish

/-- R52: what a start does to the load, its outlets, the queue, the shed lists and the link. -/
def Obligations.StartQueuesOutlets : Prop :=
  ∀ (i : Nat) (l : Load) (cause : QueueCause) (s : State), s.load i = some l → l.outlets.Nodup →
    let u := s.start i cause
    (∀ n ∈ l.outlets, s.insertable n (.bound i) →
      u.queued n (.bound i) l.prio cause s.now ∧ (u.outlet n).lineLost = false ∧ u.loadIn i .starting = true) ∧
    (∀ n ∈ l.outlets, n ∈ outletNumbers → (s.outlet n).service = .failed →
      u.outlet n = { s.outlet n with shed := false } ∧ u.hasEntry n = s.hasEntry n) ∧
    (∀ n ∈ l.outlets, n ∈ outletNumbers → (s.outlet n).service = .inService → s.phaseLost (s.phaseOf n) = true →
      u.outlet n = { s.outlet n with shed := false, lineLost := true } ∧ u.hasEntry n = s.hasEntry n) ∧
    (∀ e ∈ u.shedEntries, e.victim ≠ .slot i) ∧ (∃ m, u.load i = some m ∧ m.wantedOn = true) ∧
    (l.peers ≠ [] → s.link.presence = .up → u.loadIn i .starting = true ∧
      u.link.tx = s.link.tx ++ [.raise l.tag s.link.counter]) ∧
    (l.peers ≠ [] → s.link.presence ≠ .up → u.link.tx = s.link.tx ∧
      ∃ m, u.load i = some m ∧ hasNotice m.notices .peerNoAnswer = true)

/-- R57: what a stop does to the load, its outlets, the queue, the shed lists and the link. -/
def Obligations.StopOpensOutlets : Prop :=
  ∀ (i : Nat) (l : Load) (s : State), s.load i = some l →
    let u := s.stop i
    (∃ m, u.load i = some m ∧ m.wantedOn = false ∧ m.watch = Watch.stopped ∧ m.qReason = none ∧
      (l.staged = none → m.strikes = l.strikes) ∧ (m.state = .stopping ∨ m.state = .unpowered) ∧
      ((∃ n ∈ l.outlets, (s.outlet n).settledOpen = false) → m.state = .stopping) ∧
      ((∀ n ∈ l.outlets, (s.outlet n).settledOpen = true) → l.peers = [] → l.order = none → m.state = .unpowered)) ∧
    (∀ n ∈ l.outlets, u.hasEntry n = false ∧ (u.outlet n).shed = false ∧ (u.outlet n).lineLost = false ∧
      (n ∈ outletNumbers → Outlet.openAsked (s.outlet n) (u.outlet n))) ∧
    (∀ e ∈ u.shedEntries, e.victim ≠ .slot i) ∧
    (l.peers ≠ [] → s.link.presence = .up → u.link.tx = s.link.tx ++ [.drop l.tag s.link.counter 0]) ∧
    (l.peers ≠ [] → s.link.presence ≠ .up → u.link.tx = s.link.tx ∧
      ∃ m, u.load i = some m ∧ hasNotice m.notices .peerNoAnswer = true)

/-- R59, R92 to R95: the ranks of CYCLE; the load takes the lowest free context in OPENING with cause REQUEST, its
outlets are asked to open and its partner to drop. A pinned load answers PINNED in STOPPING too, by the rank order,
where R58 says WRONG_STATE: log 33. -/
def Obligations.CycleRequestBeginsOpening : Prop :=
  ∀ (t i : Nat) (g : Tag) (l : Load) (s : State), s.Settled → s.Free → s.names g i l → l.awaiting = false →
    let v := s.advance t
    let refused := fun st => exec (.cycle t (.fits g)) s = .next (v.answered .cycle st .nothing)
    if l.pinned = true then refused .pinned
    else if l.state ≠ .on then refused .wrongState
    else if ∃ n ∈ l.outlets, (s.outlet n).service = .failed then refused .outletFailed
    else if l.peers ≠ [] ∧ s.link.presence ≠ .up then refused .peerDown
    else if s.freeContext = none then refused .busy
    else
      ∃ (u : State) (k : Nat) (c : Context) (m : Load), exec (.cycle t (.fits g)) s = .next u.finish ∧
        u.shows .cycle .done .nothing ∧ s.freeContext = some k ∧ u.context k = some c ∧ c.slot = i ∧
        c.cause = .request ∧ c.pending = none ∧ (c.phase = .opening ∨ c.phase = .dwell) ∧
        u.load i = some m ∧ m.state = .cycling ∧ m.wantedOn = true ∧ m.watch = Watch.stopped ∧
        m.postCycleBoot = false ∧ m.strikes = l.strikes ∧ m.notices = l.notices ∧ m.staged = l.staged ∧
        (∀ n ∈ l.outlets, u.hasEntry n = false ∧ (u.outlet n).shed = false ∧ (u.outlet n).lineLost = false ∧
          (n ∈ outletNumbers → Outlet.openAsked (s.outlet n) (u.outlet n))) ∧
        (l.peers ≠ [] → u.link.tx = s.link.tx ++
          [.drop l.tag s.link.counter (l.cyclePolicy.dwell + s.settings.raiseLimit + 10)]) ∧
        (l.peers = [] → u.link.tx = s.link.tx)

/-- R60, R100, R102, R108: CANCEL by the cycle phase, and the expiry of the dwell: CLOSING begins with the outlets in
the queue and RAISE asked of the partner, or the cycle failed as PEER_LOST where an answered partner is not UP. R102
item 1, R109, R110: with an IN_SERVICE outlet on a lost phase the cycle is abandoned by line loss instead, its open
outlets on every lost phase marked, the entries of a load that goes DARK kept (log 17), and those of a load that goes
to ON made with the class that holds after a latch (log 52). -/
def Obligations.ClosingBegins : Prop :=
  ∀ (t i k : Nat) (g : Tag) (l : Load) (x : Context) (s : State), s.Settled → s.names g i l →
    l.awaiting = false → l.state = .cycling → s.waiting i = false → s.contextOf i = some k → s.context k = some x →
    let v := s.advance t
    let began := fun (u : State) (p : Option PendingOutcome) =>
      ∀ n ∈ l.outlets, s.insertable n (.bound i) →
        (∀ n' ∈ l.outlets, (s.outlet n').service = .inService → s.phaseLost (s.phaseOf n') = false) →
        u.queued n (.bound i) l.prio .cycle v.now ∧
        ∃ c, u.context k = some c ∧ c.slot = i ∧ c.phase = .closing ∧ c.cause = x.cause ∧
          (x.peer = .none → c.pending = p ∧ c.deadline = none ∧ u.link.tx = s.link.tx) ∧
          (x.peer ≠ .none → s.link.presence = .up → c.pending = p ∧ c.peer = .asked ∧
            c.order = some s.link.counter ∧ c.deadline = some (v.now + s.settings.raiseLimit * 100000) ∧
            u.link.tx = s.link.tx ++ [.raise l.tag s.link.counter]) ∧
          (x.peer = .answered → s.link.presence ≠ .up → c.peer = .none ∧ c.deadline = none ∧
            u.link.tx = s.link.tx ∧
            c.pending = match p with
              | some (.failed r) => some (.failed r)
              | _ => some (.failed .peerLost))
    let abandoned := fun (u : State) =>
      (∃ n ∈ l.outlets, (s.outlet n).service = .inService ∧ s.phaseLost (s.phaseOf n) = true) → s.waitList = [] →
        let closed := ∃ n ∈ l.outlets, (s.outlet n).commanded = .closed
        let raises := l.peers ≠ [] ∧ s.link.presence = .up ∧
          ((x.phase = .opening ∧ x.peer ≠ .none) ∨ (x.phase = .dwell ∧ x.peer = .answered))
        u.context k = none ∧
        (∀ n ∈ l.outlets, n ∈ outletNumbers → (s.outlet n).service = .inService → (s.outlet n).commanded = .opened →
          s.phaseLost (s.phaseOf n) = true → (u.outlet n).lineLost = true) ∧
        ∃ m, u.load i = some m ∧ m.lastOutcome = some { outcome := .abandoned .lineLoss, cause := x.cause } ∧
          m.wantedOn = l.wantedOn ∧
          (raises → u.link.tx = s.link.tx ++ [.raise l.tag s.link.counter] ∧
            m.order = some { kind := .raise, number := s.link.counter, sender := .load,
                             deadline := v.now + s.settings.raiseLimit * 100000 }) ∧
          (¬ raises → u.link.tx = s.link.tx) ∧
          (l.peers = [] → ¬ closed → m.state = .dark ∧ hasNotice m.notices .dark = true ∧ m.staged = none ∧
            u.queue = s.queue) ∧
          (l.peers ≠ [] ∨ closed → m.state = .on ∧ m.powerTime = some v.now ∧
            ∀ n ∈ l.outlets, s.insertable n (.bound i) → s.phaseUp (s.phaseOf n) = true →
              u.queued n (.bound i) m.prio .cycle v.now)
    (s.Free → (x.phase = .opening ∨ x.phase = .dwell) →
      ∃ u : State, exec (.cancel t (.fits g)) s = .next u.finish ∧ u.shows .cancel .done .nothing ∧
        began u (if x.pending = none then some .cancelled else x.pending) ∧ abandoned u) ∧
    (s.Free → x.phase = .closing →
      exec (.cancel t (.fits g)) s = .next (v.answered .cancel .wrongState .nothing)) ∧
    (∀ d, x.phase = .dwell → x.deadline = some d → d ≤ v.now →
      ∃ u : State, exec (.dwellExpiry t i) s = .next u.finish ∧ began u x.pending ∧ abandoned u)

/-- R60: CANCEL of a waiting load takes it off the wait list to ON with its watch HUNG, and its staged amendment latches
in the step (R39; the watch is set before the latch: log 42); of a load not in CYCLING it is refused. R87, R93: a freed
context is passed on to the wait list: its head is quarantined for a FAILED outlet, with its staged amendment latched
first, or stranded where its partner is not UP, and the next one judged in its turn; a load that passes leaves the list
and begins OPENING in the lowest free context. -/
def Obligations.CancelOfWaitingLoad : Prop :=
  (∀ (t i : Nat) (g : Tag) (l : Load) (s : State), s.Settled → s.Free → s.names g i l → l.awaiting = false →
    (l.state ≠ .cycling →
      exec (.cancel t (.fits g)) s = .next ((s.advance t).answered .cancel .wrongState .nothing)) ∧
    (l.state = .cycling → s.waiting i = true →
      let w := { s.advance t with waitList := s.waitList.filter fun w => w.slot != i }
      let on : Load := { l with
        state := .on, qReason := none, powerTime := some (max s.now t), postCycleBoot := false, startRestored := false
        watch := if l.watchPolicy.isSome then { Watch.stopped with sub := .hung } else Watch.stopped }
      (l.staged = none →
        exec (.cancel t (.fits g)) s = .next ((w.setLoad i on).answered .cancel .done .nothing)) ∧
      ∀ q, l.staged = some q →
        let c := nextRevision (s.slot i).counter
        exec (.cancel t (.fits g)) s = .next (State.finish
          ((w.setSlot i { counter := c
                          load := some { Load.applied on q true (max s.now t) with
                            staged := none, revision := c, notices := addNotice l.notices .stagedApplied } }).raiseFlag
            .loadNotice |>.answered .cancel .done .nothing)))) ∧
  (∀ (i : Nat) (s : State), s.freeCycle i = (s.dropContext i).passOn ∧ s.passOn = s.passOnTo s.waitList ∧
    (∀ k, s.contextOf i = some k → (s.dropContext i).context k = none)) ∧
  ∀ (s : State), s.passOnTo [] = s ∧ ∀ (w : Waiter) (ws : List Waiter),
    (s.freeContext = none → s.passOnTo (w :: ws) = s) ∧
    ∀ (k : Nat) (l : Load), s.freeContext = some k → s.load w.slot = some l → l.state = .cycling →
      let left := fun (u : State) (st : LoadState) (q : Option QuarantineReason) (n : Notice) =>
        s.passOnTo (w :: ws) = u.passOnTo ws ∧ u.waitList = ws ∧ u.contexts = s.contexts ∧
        ∃ m, u.load w.slot = some m ∧ m.state = st ∧ m.qReason = q ∧ hasNotice m.notices n = true ∧
          m.staged = none ∧ (l.staged ≠ none →
            m.revision = nextRevision (s.slot w.slot).counter ∧ hasNotice m.notices .stagedApplied = true)
      if ∃ n ∈ l.outlets, (s.outlet n).service = .failed then
        ∃ u, left u .quarantined (some .outletFailed) .quarantined
      else if l.peers ≠ [] ∧ s.link.presence ≠ .up then ∃ u, left u .stranded none .stranded
      else
        let u := s.passOnTo (w :: ws)
        u.waitList = ws ∧ (∃ c, u.context k = some c ∧ c.slot = w.slot ∧ c.cause = w.cause ∧ c.pending = none ∧
          (c.phase = .opening ∨ c.phase = .dwell)) ∧
        (∃ m, u.load w.slot = some m ∧ m.state = .cycling ∧ m.staged = l.staged ∧ m.notices = l.notices) ∧
        (∀ n ∈ l.outlets, u.hasEntry n = false ∧ (u.outlet n).lineLost = false ∧
          (n ∈ outletNumbers → Outlet.openAsked (s.outlet n) (u.outlet n))) ∧
        (l.peers ≠ [] → u.link.tx = s.link.tx ++
          [.drop l.tag s.link.counter (l.cyclePolicy.dwell + s.settings.raiseLimit + 10)])

/-- R61 to R63: RELEASE by the load's state. -/
def Obligations.ReleaseByState : Prop :=
  ∀ (t i : Nat) (g : Tag) (l : Load) (s : State), s.Settled → s.Free → s.names g i l → l.awaiting = false →
    let v := s.advance t
    let c := Instr.release t (.fits g)
    let refused := exec c s = .next (v.answered .release .wrongState .nothing)
    let on := fun strikes => exec c s = .next ((v.setLoad i
      { l with state := .on, qReason := none, strikes := strikes, powerTime := some v.now, postCycleBoot := false,
               startRestored := false, watch := watchOn l.watchPolicy .boot v.now }).answered .release .done .nothing)
    (l.state = .quarantined → (∃ n ∈ l.outlets, (s.outlet n).commanded = .closed) → on 0) ∧
    (l.state = .quarantined → (∀ n ∈ l.outlets, (s.outlet n).commanded = .opened) →
      ∃ (u : State) (m : Load), exec c s = .next u.finish ∧ u.shows .release .done .nothing ∧ u.load i = some m ∧
        m.state = .unpowered ∧ m.strikes = 0 ∧ m.qReason = none ∧ m.wantedOn = l.wantedOn ∧
        (∀ n ∈ l.outlets, u.hasEntry n = false ∧ (u.outlet n).shed = false ∧
          (u.outlet n).commanded = .opened ∧ (u.outlet n).lineLost = (s.outlet n).lineLost) ∧
        (∀ e ∈ u.shedEntries, e.victim ≠ .slot i) ∧ u.link.tx = s.link.tx) ∧
    (l.state = .stranded → on l.strikes) ∧
    (l.state = .shed → (∃ n ∈ l.outlets, branchOf n ∈ branchNumbers ∧ (s.guard (branchOf n)).state = .shedding) →
      refused) ∧
    (l.state = .shed → (∀ n ∈ l.outlets, (s.guard (branchOf n)).state ≠ .shedding) →
      exec c s = .next (((branchNumbers.foldl (fun s b => s.leaveHold i b) v.quiet).start i .restore).reply .release
        (.answer .done .nothing)).finish) ∧
    (l.state ≠ .quarantined → l.state ≠ .stranded → l.state ≠ .shed → refused)

/-! ### Beats and watches -/

/-- R79, R71 to R73, R77, R80: a BEAT carries 1 to 16 tags and is answered with the counts of those that resolve and
those that do not; and the effect of one beat by the state of its load and of its watch. R39: a staged amendment latches
first at the beat that ends post-cycle boot (R71), and in the step of a beat in WAITING, there after the watch is set
(log 42). -/
def Obligations.BeatsTaken : Prop :=
  (∀ (t : Nat) (tags : List Tag) (s : State), s.Settled → s.Free →
    (tags.length = 0 ∨ 16 < tags.length →
      exec (.beat t (.fits tags)) s = .next ((s.advance t).answered .beat .badRequest .nothing)) ∧
    (1 ≤ tags.length → tags.length ≤ 16 →
      let known := (tags.filter fun g => g != 0 && (s.resolve g).isSome).length
      ∃ u : State, exec (.beat t (.fits tags)) s = .next u.finish ∧
        u.shows .beat .done (.beat known (tags.length - known)) ∧ u.outlets = s.outlets ∧ u.queue = s.queue)) ∧
  ∀ (t i : Nat) (g : Tag) (l : Load) (s : State), s.Settled → s.Free → s.names g i l →
    let v := s.advance t
    let c := nextRevision (s.slot i).counter
    let gives := fun (u : State) =>
      exec (.beat t (.fits [g])) s = .next (u.answered .beat .done (.beat 1 0))
    let alive := fun (policy : Option WatchPolicy) => match policy with
      | none => Watch.stopped
      | some p => { Watch.stopped with
          sub := .live, beat := if p.mode = .flat then none else some (v.now + p.interval * p.miss * 100000) }
    let live := alive l.watchPolicy
    let latched := fun (w : State) (m : Load) =>
      exec (.beat t (.fits [g])) s = .next (State.finish
        ((w.setSlot i { counter := c
                        load := some { m with staged := none, revision := c
                                              notices := addNotice l.notices .stagedApplied } }).raiseFlag
          .loadNotice |>.answered .beat .done (.beat 1 0)))
    let on : Load := { l with state := .on, qReason := none, powerTime := some v.now, watch := live,
                              postCycleBoot := false, startRestored := false }
    (l.state = .on → l.watch.sub = .inactive → gives v) ∧
    (l.state = .on → l.watch.sub = .boot → l.staged = none ∨ l.postCycleBoot = false →
      gives (v.setLoad i { l with watch := live, postCycleBoot := false })) ∧
    (∀ q, l.state = .on → l.watch.sub = .boot → l.staged = some q → l.postCycleBoot = true →
      let m := Load.applied l q false v.now
      latched v { m with watch := alive m.watchPolicy, postCycleBoot := false }) ∧
    (l.state = .on → l.watch.sub = .live ∨ l.watch.sub = .suspect ∨ l.watch.sub = .hung →
      gives (v.setLoad i { l with watch := live })) ∧
    (l.state = .stranded → gives (v.setLoad i on)) ∧
    (l.state = .cycling → s.waiting i = true →
      let w := { v with waitList := s.waitList.filter fun w => w.slot != i }
      (l.staged = none → gives (w.setLoad i on)) ∧
      ∀ q, l.staged = some q → latched w (Load.applied on q true v.now)) ∧
    (l.state ≠ .on → l.state ≠ .stranded → (l.state = .cycling → s.waiting i = false) → gives v)

/-- R71 to R73: the expiries of a watch in ON: of the beat deadline, of the confirm timer, and of boot grace, where a
staged amendment latches first while post-cycle boot is set. R73 to R76: a window end at the Watch Unit takes the slots
in ascending order, and judges the flat span of a load in ON whose watch is LIVE or SUSPECT in a flat mode. That a band
break in SUSPECT of mode FLAT keeps the new reference and span in LIVE is the model's reading (R76 against R75: log 13),
and so is that a boot grace which expires under a latched removal of the policy leaves the watch INACTIVE (log 14). -/
def Obligations.WatchTimersExpire : Prop :=
  (∀ (t i d : Nat) (l : Load) (p : WatchPolicy) (s : State), s.Settled → s.load i = some l → l.state = .on →
    l.watchPolicy = some p → d ≤ max s.now t →
    let v := s.advance t
    (l.watch.sub = .live → l.watch.beat = some d →
      exec (.beatDeadlineExpiry t i) s = .next (v.setLoad i
        { l with watch := { l.watch with sub := .suspect, beat := none
                                         confirm := some (v.now + p.interval * 100000) } })) ∧
    (l.watch.sub = .suspect → l.watch.confirm = some d →
      if p.mode = .beat ∨ l.watch.flatSign = true then
        exec (.confirmExpiry t i) s = .next (v.confirmHang i .hang).finish
      else
        exec (.confirmExpiry t i) s = .next (v.setLoad i { l with watch := { l.watch with confirm := none } })) ∧
    (l.watch.sub = .boot → l.watch.boot = some d → l.staged = none ∨ l.postCycleBoot = false →
      if p.mode = .flat then
        exec (.bootGraceExpiry t i) s = .next (v.setLoad i
          { l with watch := { Watch.stopped with sub := .live }, postCycleBoot := false })
      else exec (.bootGraceExpiry t i) s = .next (v.confirmHang i .bootExpiry).finish) ∧
    ∀ q, l.watch.sub = .boot → l.watch.boot = some d → l.staged = some q → l.postCycleBoot = true →
      let w := v.latch i false
      ∃ m, w.load i = some m ∧ m.staged = none ∧ m.revision = nextRevision (s.slot i).counter ∧
        hasNotice m.notices .stagedApplied = true ∧ m.watchPolicy = (l.withPolicy q).watchPolicy ∧
        exec (.bootGraceExpiry t i) s = .next (State.finish (match m.watchPolicy with
          | none => w.setLoad i { m with watch := Watch.stopped, postCycleBoot := false }
          | some p' =>
            if p'.mode = .flat then
              w.setLoad i { m with watch := { Watch.stopped with sub := .live }, postCycleBoot := false }
            else w.confirmHang i .bootExpiry))) ∧
  (∀ s : State, s.takeWindow .watch = slotNumbers.foldl State.watchLoad s) ∧
  ∀ (i : Nat) (l : Load) (s : State), s.load i = some l →
    let w := l.watch
    let u := s.watchLoad i
    let becomes := fun (x : Watch) => u = s.setLoad i { l with watch := x }
    let power := (l.outlets.map fun n => (s.outlet n).power).sum
    let judgeable := ∃ n ∈ l.outlets, (s.outlet n).commanded = .closed ∧ s.phaseUp (s.phaseOf n) = true
    (l.state ≠ .on ∨ l.watchPolicy = none ∨ (w.sub ≠ .live ∧ w.sub ≠ .suspect) → u = s) ∧
    ∀ p, l.watchPolicy = some p →
      (p.mode = .beat → u = s) ∧
      (p.mode ≠ .beat → l.state = .on → w.sub = .live ∨ w.sub = .suspect →
        let within := fun r => power ≤ r + p.band ∧ r ≤ power + p.band
        (¬ judgeable → becomes { w with ref := none, spanStart := 0, flatSign := false }) ∧
        (judgeable → w.ref = none → becomes { w with ref := some power, spanStart := s.now, flatSign := false }) ∧
        ∀ r, judgeable → w.ref = some r →
          (¬ within r → becomes
            { w with ref := some power, spanStart := s.now, flatSign := false
                     sub := if p.mode = .flat then .live else w.sub }) ∧
          (within r → s.now < w.spanStart + p.span * 100000 → becomes w) ∧
          (within r → w.spanStart + p.span * 100000 ≤ s.now →
            let flat := { w with flatSign := true }
            if w.flatSign = true then becomes flat
            else if p.mode = .flat ∧ w.sub = .live then
              becomes { w with sub := .suspect, ref := none, spanStart := 0, flatSign := false }
            else if w.sub = .suspect ∧ (p.mode = .flat ∨ w.confirm = none) then
              u = (s.setLoad i { l with watch := flat }).confirmHang i .hang
            else becomes flat))

/-- R82: the confirmed-hang decision, by the first row whose condition holds. -/
def Obligations.ConfirmedHangDecided : Prop :=
  ∀ (i : Nat) (cause : Cause) (l : Load) (s : State), s.load i = some l → l.state = .on →
    let u := s.confirmHang i cause
    let count := min l.cyclePolicy.threshold (l.strikes + 1)
    ∃ m, u.load i = some m ∧ hasNotice m.notices .hang = true ∧ u.flags.loadNotice = true ∧
      (m.state ≠ .quarantined → m.wantedOn = l.wantedOn) ∧
      if l.pinned = true then m.state = .on ∧ m.watch.sub = .hung ∧ m.strikes = l.strikes
      else m.strikes = count ∧
        if count = l.cyclePolicy.threshold then
          m.state = .quarantined ∧ m.qReason = some .strikes ∧ hasNotice m.notices .quarantined = true ∧
          m.watch.sub = .inactive
        else if l.cyclePolicy.auto = false then m.state = .on ∧ m.watch.sub = .hung
        else if ∃ n ∈ l.outlets, (s.outlet n).service = .failed then
          m.state = .quarantined ∧ m.qReason = some .outletFailed ∧ hasNotice m.notices .quarantined = true ∧
          m.watch.sub = .inactive
        else if l.peers ≠ [] ∧ s.link.presence ≠ .up then
          m.state = .stranded ∧ m.watch.sub = .hung ∧ hasNotice m.notices .stranded = true
        else m.state = .cycling ∧ m.watch.sub = .inactive ∧ m.postCycleBoot = false ∧
          (s.freeContext = none → u.waitList = s.waitList ++ [{ slot := i, cause := cause }]) ∧
          (∀ k, s.freeContext = some k → u.waitList = s.waitList ∧
            ∃ c, u.context k = some c ∧ c.slot = i ∧ c.cause = cause)

/-- R89: the drip lowers every strike count outside QUARANTINED and every fault count of an outlet in use by one where
it is not zero, and changes nothing else but its own timer. -/
def Obligations.DripLowersCounts : Prop :=
  ∀ (t : Nat) (s : State), s.Settled → s.dripStart + s.settings.dripPeriod * 360000000 ≤ max s.now t →
    ∃ u : State, exec (.dripExpiry t) s = .next u ∧ u.dripStart = max s.now t ∧
      (∀ i, u.load i = (s.load i).map fun l =>
        if l.state = .quarantined then l else { l with strikes := l.strikes - 1 }) ∧
      (∀ n, n ∈ outletNumbers → u.outlet n =
        if s.inUse n then { s.outlet n with faults := (s.outlet n).faults - 1 } else s.outlet n) ∧
      u.queue = s.queue ∧ u.flags = s.flags ∧ u.contexts = s.contexts ∧ u.link = s.link ∧ u.guards = s.guards

/-! ### Requests that read, and the image -/

/-- R12, R131, R149 to R151, R162 to R164, R180, R199, R208: the requests that read the part, with every field of what
SETTINGS, OUTLETS and METER answer, what each request changes, and which outlets, branches and selectors METER and
REVIVE take. That an answer is a structure is log 19, that the side
in force is the override at once log 20, and the time left on a hold deadline in whole ms log 31. -/
def Obligations.ReadRequestsAnswered : Prop :=
  ∀ (t : Nat) (s : State), s.Settled → s.Free →
    let v := s.advance t
    let ms := fun (moment : Nat) => (v.now - moment) / 100
    let settings : SettingsView :=
      { straps := s.strap
        count := s.settings.countOvr.getD (Config.sizeBranches s.strap.size)
        countOverridden := s.settings.countOvr.isSome
        rating := s.settings.ratingOvr.getD (Config.sizeRating s.strap.size)
        ratingOverridden := s.settings.ratingOvr.isSome
        side := s.settings.sideOvr.getD s.strap.side, sideOverridden := s.settings.sideOvr.isSome
        settings := s.settings
        branches := s.branchesInUse.map fun b =>
          { branch := b, ceiling := s.ceiling b, threshold := s.threshold b, restoreMode := s.restoreMode b
            sum := s.branchSum b }
        presence := s.link.presence, announce := s.link.announce
        announceAge := s.link.announce.map fun a => ms a.moment }
    let entry := fun (n : Nat) => (s.queue.find? fun e => e.outlet = n).map fun e =>
      ({ cause := e.cause, prio := e.prio, owner := e.owner
         position := ((s.queue.filter fun x => branchOf x.outlet = branchOf n).takeWhile
           fun x => x.outlet != n).length + 1 } : EntryView)
    let outlet := fun (n : Nat) =>
      let o := s.outlet n
      ({ outlet := n, branch := branchOf n, phase := s.phaseOf n, owner := o.owner, reservation := o.reservation
         releasing := o.releasing, shed := o.shed, lineLost := o.lineLost, adopted := o.adopted
         held := o.dropHold.isSome
         holdLeft := o.dropHold.bind fun h => h.deadline.map fun d => (d - v.now) / 100
         answer := match o.owner with
           | .lent tag _ _ => (s.answerOf tag).map fun a => (a.kind, a.order)
           | _ => none
         service := o.service, commanded := o.commanded, sensed := o.sensed, switching := o.switching
         pendingOpen := o.pendingOpen, driftHeld := o.driftHeld, wear := o.wear, closeTime := o.closeTime
         openTime := o.openTime, faults := o.faults, ops := o.ops, entry := entry n } : OutletView)
    let shed := fun (e : ShedEntry) =>
      ({ tag := match e.victim with
           | .home tag => tag
           | .slot i => ((s.load i).map (·.tag)).getD 0
         kind := e.kind, outlets := e.outlets } : ShedView)
    let branch := fun (b : Nat) =>
      ({ branch := b, closing := (s.gate b).closing, sinceDrive := (s.gate b).lastDrive.map ms
         reason := (s.gate b).reason, guard := (s.guard b).state, overCount := (s.guard b).overCount
         settle := (s.guard b).settle, restoreAge := (s.guard b).restoreStart.map ms
         list := (s.guard b).list.map shed } : BranchView)
    let range := fun (first count : Nat) => (s.outletsInUse.filter fun n => first ≤ n).take count
    let figures := fun (sel : MeterSel) => match sel with
      | .range first count => MeterFigures.outlets ((range first count).map fun n =>
          { outlet := n, branch := branchOf n, phase := s.phaseOf n, current := (s.outlet n).current
            power := (s.outlet n).power, offset := (s.outlet n).offset, energy := (s.outlet n).energy })
      | .branch b =>
        let p := phaseOfBranch s.branchCount b
        MeterFigures.branch
          { current := s.branchCurrent b
            outlets := (outletNumbers.filter fun n => branchOf n = b).map fun n => (s.outlet n).current
            phase := p, state := (s.line p).state, locked := (s.line p).locked }
      | .phase p =>
        let l := s.line p
        MeterFigures.phase
          { volts := l.volts, freq := l.freq, current := l.current, state := l.state, locked := l.locked
            run := l.run, half := l.half, missed := if l.state = .up then some l.missed else none
            goodRunMs := if l.state = .up then none else some ((l.goodRun.map ms).getD 0) }
    let meter := fun (sel : MeterSel) => AnswerBody.meter s.meter.number (s.meter.lastEnd.map ms) (figures sel)
    exec (.settings t (.fits ())) s = .next (v.answered .settings .done (.settings settings)) ∧
    exec (.attention t (.fits ())) s =
      .next (({ v with flags := Flags.none } : State).answered .attention .done
        (.attention { flags := s.flags, enables := s.settings.enables, master := s.settings.master,
                      valid := s.store.valid, lastSave := s.store.lastSave })).judgeLine ∧
    exec (.faults t (.fits false)) s = .next (v.answered .faults .done (.faults s.capture s.more)) ∧
    exec (.faults t (.fits true)) s =
      .next (({ v with capture := none, more := false } : State).answered .faults .done
        (.faults s.capture s.more)) ∧
    (∀ n, s.inUse n = true ↔ 1 ≤ n ∧ n ≤ 8 * s.branchCount) ∧
    (∀ n, n ∈ outletNumbers → s.inUse n = true →
      exec (.revive t (.fits n)) s =
        .next ((v.setOutlet n { s.outlet n with service := .inService, faults := 0, driftHeld := false }).answered
          .revive .done .nothing)) ∧
    (∀ n, s.inUse n = false → exec (.revive t (.fits n)) s = .next (v.answered .revive .badRequest .nothing)) ∧
    (∀ first count, if s.inUse first ∧ 1 ≤ count ∧ count ≤ 8 then
        exec (.outlets t (.fits { first := first, count := count })) s =
          .next (v.answered .outlets .done
            (.outlets { outlets := (range first count).map outlet, branches := s.branchesInUse.map branch
                        extActive := s.ext.active, extClass := s.ext.cls, extList := s.ext.list.map shed }))
      else exec (.outlets t (.fits { first := first, count := count })) s =
        .next (v.answered .outlets .badRequest .nothing)) ∧
    (∀ clear sel, s.selectorOk clear sel = true ↔ match sel with
      | .range first count => s.inUse first = true ∧ 1 ≤ count ∧ count ≤ 8
      | .branch b => 1 ≤ b ∧ b ≤ s.branchCount ∧ clear = false
      | .phase _ => clear = false) ∧
    (∀ sel, s.selectorOk false sel = true →
      exec (.meter t (.fits { selectors := [sel], clear := false })) s =
        .next (v.answered .meter .done (meter sel))) ∧
    (∀ first count, s.inUse first = true → 1 ≤ count → count ≤ 8 →
      ∃ u : State, exec (.meter t (.fits { selectors := [.range first count], clear := true })) s =
          .next (u.answered .meter .done (meter (.range first count))) ∧
        ∀ n, n ∈ outletNumbers → u.outlet n =
          if n ∈ range first count then { s.outlet n with energy := 0, residue := 0 } else s.outlet n) ∧
    ∀ r : MeterReq, (r.selectors.length ≠ 1 ∨ ∃ sel ∈ r.selectors, s.selectorOk r.clear sel = false) →
      exec (.meter t (.fits r)) s = .next (v.answered .meter .badRequest .nothing)

/-- R210 to R213: SAVE takes a snapshot and erases the completion mark, is refused BUSY while one is being written, and
its end leaves the image valid and marked, or INVALID where the read-back differed (the outcome is an operand: log 21);
each raises SAVE_DONE. What the snapshot holds: settings, records, lent entries. -/
def Obligations.SaveWritesSnapshot : Prop :=
  ∀ (t : Nat) (s : State), s.Settled →
    let v := s.advance t
    (s.Free → if s.store.writing = none then
        exec (.save t (.fits ())) s =
          .next (({ v with store := { s.store with writing := some s.snapshot, valid := false, mark := false } } :
            State).answered .save .done .nothing)
      else exec (.save t (.fits ())) s = .next (v.answered .save .busy .nothing)) ∧
    (∀ m, s.store.writing = some m →
      exec (.saveEnd t true) s =
        .next (({ v with store := { writing := none, lastSave := .done, valid := true, content := some m, mark := true,
                                    checkOk := true } } : State).raiseFlag .saveDone).judgeLine ∧
      ∃ u : State, exec (.saveEnd t false) s = .next u ∧ u.store.writing = none ∧ u.store.lastSave = .failed ∧
        u.store.valid = false ∧ u.store.image = none ∧ u.flags.saveDone = true ∧ u.slots = s.slots ∧
        u.outlets = s.outlets) ∧
    s.snapshot.settings = s.settings ∧
    (∀ i l, s.load i = some l → l.state ≠ .admitting → l.state ≠ .retiring →
      ∃ r ∈ s.snapshot.records, r.slot = i ∧ r.tag = l.tag ∧ r.aliases = l.aliases ∧ r.locals = l.locals ∧
        r.peers = l.peers ∧ r.prio = l.prio ∧ r.pop = l.pop ∧ r.watchPolicy = l.watchPolicy ∧
        r.cyclePolicy = l.cyclePolicy ∧ r.wantedOn = l.wantedOn) ∧
    (∀ r ∈ s.snapshot.records, ∃ l, s.load r.slot = some l ∧ l.state ≠ .admitting ∧ l.state ≠ .retiring) ∧
    (∀ e, e ∈ s.snapshot.lent ↔ e.outlet ∈ outletNumbers ∧ (s.outlet e.outlet).releasing = false ∧
      (s.outlet e.outlet).reservation = e.res ∧ ∃ k, (s.outlet e.outlet).owner = .lent e.tag k e.prio)

/-- Section 1.5: the range and step of each setting. R13, R14: the ranks of CONFIGURE, judged on the settings as they
would stand, and what a passed one does; and each setting of section 1.5 as it would stand: the value carried for it,
else the value in force, or, for the per-branch settings at a change of the branch count or the rating, the default. An
outlet that leaves use stands open, and is freed where it was still releasing (R10; log 24). -/
def Obligations.ConfigureJudgedByRanks : Prop :=
  (∀ (count rating : Nat) (ceiling : Nat → Nat) (c : SettingChange),
    settingInRange count rating ceiling c = true ↔ settingFits count rating ceiling c) ∧
  ∀ (t : Nat) (cs : List SettingChange) (s : State), s.Settled → s.Free →
    let v := s.advance t
    let x := s.under (s.resulting cs)
    let refused := fun st => exec (.configure t (.fits cs)) s = .next (v.answered .configure st .nothing)
    (if cs = [] ∨ ¬ (cs.map settingKey).Nodup ∨
        ∃ c ∈ cs, settingInRange x.branchCount x.rating x.ceiling c = false then refused .badRequest
    else if (∃ c ∈ cs, settingIsGeometry c = true) ∧ (s.occupied ≠ [] ∨ ∃ n ∈ outletNumbers, s.homeTag n ≠ none) then
      refused .locked
    else if ∃ b ∈ x.branchesInUse, x.threshold b < x.ceiling b ∨ 10 * x.rating < x.threshold b then
      refused .badRequest
    else if ∃ b ∈ x.branchesInUse, x.threshold b ≤ x.settings.hysteresis then refused .badRequest
    else if ∃ b ∈ x.branchesInUse, x.ceiling b < s.branchSum b then refused .overBudget
    else
      ∃ u : State, exec (.configure t (.fits cs)) s = .next u.finish ∧ u.shows .configure .done .nothing ∧
        u.settings = s.resulting cs ∧ u.slots = s.slots ∧
        (u.settings.dripPeriod ≠ s.settings.dripPeriod → u.dripStart = v.now) ∧
        (x.branchCount ≠ s.branchCount ∨ x.rating ≠ s.rating → ∀ b ∈ branchNumbers, u.guard b = Guard.cold) ∧
        (∀ n ∈ outletNumbers, s.inUse n = true → x.inUse n = false →
          (u.outlet n).settledOpen = true ∧ (u.outlet n).current = 0 ∧ (u.outlet n).power = 0 ∧
          (u.outlet n).releasing = false ∧
          ((s.outlet n).releasing = true → (u.outlet n).owner = .free ∧ (u.outlet n).reservation = 0)) ∧
        (∀ n ∈ outletNumbers, s.inUse n = false → x.inUse n = true →
          (u.outlet n).owner = .free ∧ (u.outlet n).reservation = 0 ∧ (u.outlet n).releasing = false ∧
          (u.outlet n).service = .inService ∧ (u.outlet n).commanded = .opened ∧
          (u.outlet n).faults = (s.outlet n).faults ∧ (u.outlet n).ops = (s.outlet n).ops)) ∧
    ((cs.map settingKey).Nodup →
      let g := x.settings
      let was := s.settings
      let same := x.branchCount = s.branchCount ∧ x.rating = s.rating
      g.countOvr = carried cs (fun c => match c with | .branchCount k => some k | _ => none) was.countOvr ∧
      g.ratingOvr = carried cs (fun c => match c with | .rating k => some k | _ => none) was.ratingOvr ∧
      g.sideOvr = carried cs (fun c => match c with | .side k => some k | _ => none) was.sideOvr ∧
      g.nominal = carried cs (fun c => match c with | .nominal k => some k | _ => none) was.nominal ∧
      g.hysteresis = carried cs (fun c => match c with | .hysteresis k => some k | _ => none) was.hysteresis ∧
      g.spacing = carried cs (fun c => match c with | .spacing k => some k | _ => none) was.spacing ∧
      g.restoreDelay = carried cs (fun c => match c with | .restoreDelay k => some k | _ => none) was.restoreDelay ∧
      g.extClass = carried cs (fun c => match c with | .extClass k => some k | _ => none) was.extClass ∧
      g.extRestore = carried cs (fun c => match c with | .extRestore k => some k | _ => none) was.extRestore ∧
      g.dripPeriod = carried cs (fun c => match c with | .dripPeriod k => some k | _ => none) was.dripPeriod ∧
      g.faultThreshold =
        carried cs (fun c => match c with | .faultThreshold k => some k | _ => none) was.faultThreshold ∧
      g.wearLimit = carried cs (fun c => match c with | .wearLimit k => some k | _ => none) was.wearLimit ∧
      g.raiseLimit = carried cs (fun c => match c with | .raiseLimit k => some k | _ => none) was.raiseLimit ∧
      g.master = carried cs (fun c => match c with | .master k => some k | _ => none) was.master ∧
      (∀ f, g.enables.get f =
        carried cs (fun c => match c with | .enable h k => if h = f then some k else none | _ => none)
          (was.enables.get f)) ∧
      ∀ b ∈ branchNumbers,
        x.ceiling b = carried cs (fun c => match c with | .ceiling h k => if h = b then some k else none | _ => none)
          (if same then s.ceiling b else 8 * x.rating) ∧
        x.threshold b =
          carried cs (fun c => match c with | .threshold h k => if h = b then some k else none | _ => none)
            (if same then s.threshold b else x.rating * 95 / 10) ∧
        x.restoreMode b =
          carried cs (fun c => match c with | .restoreMode h k => if h = b then some k else none | _ => none)
            (if same then s.restoreMode b else .auto))

/-- R16 to R18, R48: what a cold reset leaves: every block as after a cold reset, the straps read; the defaults where no
image is valid; the settings of a valid image, each per-branch setting and the hysteresis out of its range replaced by
its default; then its lent entries and its records in turn; and what one lent entry and one record restores, or drops
with CONFIG. That the timebase runs on, and that PRST_N, the measured voltages and the image stand, is log 5; that the
settings of branches out of use are checked with the others is the model's reading of R16 (log 30). -/
def Obligations.ColdResetRestores : Prop :=
  (∀ (t size : Nat) (side : Side) (level : Bool) (s : State),
    ∃ u : State, exec (.coldReset t size side level) s = .next u ∧ u.now = max s.now t ∧
      u.strap = { size := size, side := side } ∧ u.queue = [] ∧ u.waitList = [] ∧
      (∀ k, k < 8 → u.context k = none) ∧ (∀ b ∈ branchNumbers, u.gate b = Gate.cold ∧ u.guard b = Guard.cold) ∧
      u.ext.active = level ∧ u.ext.list = [] ∧ u.link.presence = .down ∧ u.link.announce = none ∧
      u.link.answers = [] ∧ u.link.counter = 1 ∧ u.link.tx = [.hello u.side u.branchCount u.rating] ∧
      u.port.state = .idle ∧ u.meter.number = 0 ∧ u.meter.start = u.now ∧ u.dripStart = u.now ∧
      u.patrol.pointer = 1 ∧ u.capture = none ∧ u.more = false ∧ u.store.writing = none ∧ u.store.lastSave = .none ∧
      u.store.valid = s.store.image.isSome ∧ (∀ p : Phase, u.line p = Line.cold) ∧
      (∀ n ∈ outletNumbers, (u.outlet n).adopted = false ∧ (u.outlet n).commanded = .opened ∧
        (u.outlet n).service = .inService ∧ (u.outlet n).sensed = .unknown ∧ (u.outlet n).switching = .idle ∧
        (u.outlet n).shed = false ∧ (u.outlet n).lineLost = false ∧ (u.outlet n).dropHold = none) ∧
      (∀ i l, u.load i = some l → l.state = .unpowered ∧ l.awaiting = true ∧ l.revision = 1 ∧ l.strikes = 0 ∧
        l.notices = 0 ∧ l.pinned = false ∧ l.staged = none ∧ (u.slot i).counter = 1) ∧
      (s.store.image = none → u.settings = Settings.defaults (Config.sizeRating size) ∧
        (∀ i, u.slot i = Slot.empty) ∧ (∀ n ∈ outletNumbers, (u.outlet n).owner = .free) ∧ u.flags.config = true) ∧
      ∀ m : Snapshot, s.store.mark = true → s.store.checkOk = true → s.store.content = some m →
        let g := m.settings
        let ceilingOk := fun b => u.rating ≤ vget 0 g.ceiling (index1 b) ∧ vget 0 g.ceiling (index1 b) ≤ 10 * u.rating
        let thresholdOk := fun b =>
          u.ceiling b ≤ vget 0 g.threshold (index1 b) ∧ vget 0 g.threshold (index1 b) ≤ 10 * u.rating
        let hysteresisOk := ∀ b ∈ branchNumbers, g.hysteresis < u.threshold b
        u.settings = { g with ceiling := u.settings.ceiling, threshold := u.settings.threshold
                              hysteresis := u.settings.hysteresis } ∧
        (∀ b ∈ branchNumbers,
          (ceilingOk b → u.ceiling b = vget 0 g.ceiling (index1 b)) ∧ (¬ ceilingOk b → u.ceiling b = 8 * u.rating) ∧
          (thresholdOk b → u.threshold b = vget 0 g.threshold (index1 b)) ∧
          (¬ thresholdOk b → u.threshold b = u.rating * 95 / 10)) ∧
        (hysteresisOk → u.settings.hysteresis = g.hysteresis) ∧ (¬ hysteresisOk → u.settings.hysteresis = 10) ∧
        ∃ w : State, w.settings = u.settings ∧ w.strap = u.strap ∧ (∀ i, w.slot i = Slot.empty) ∧
          (∀ n ∈ outletNumbers, w.outlet n = { Outlet.cold with volts := (s.outlet n).volts }) ∧
          (w.flags.config = true ↔ ¬ hysteresisOk ∨ ∃ b ∈ branchNumbers, ¬ ceilingOk b ∨ ¬ thresholdOk b) ∧
          let r := m.records.foldl State.restoreRecord (m.lent.foldl State.restoreLentEntry w)
          u.slots = r.slots ∧ u.flags.config = r.flags.config ∧
          ∀ n ∈ outletNumbers,
            (u.outlet n).owner = (r.outlet n).owner ∧ (u.outlet n).reservation = (r.outlet n).reservation) ∧
  (∀ (w : State) (e : ImageLent),
    let o := w.outlet e.outlet
    let claimed := w.inUse e.outlet = true ∧ 1 ≤ e.res ∧ e.res ≤ 10 * w.rating ∧ o.owner = .free ∧
      o.releasing = false ∧ o.service = .inService ∧
      w.branchSum (branchOf e.outlet) + e.res ≤ w.ceiling (branchOf e.outlet)
    (claimed →
      w.restoreLentEntry e = w.setOutlet e.outlet { o with owner := .lent e.tag 0 e.prio, reservation := e.res }) ∧
    (¬ claimed → w.restoreLentEntry e = w.raiseFlag .config)) ∧
  ∀ (w : State) (r : ImageRecord),
    let passes := r.slot < 40 ∧ r.tag ≠ 0 ∧ w.resolve r.tag = none ∧
      (∀ a ∈ r.aliases, a ≠ 0 ∧ a ≠ r.tag ∧ w.resolve a = none) ∧ r.aliases.Nodup ∧
      w.aliasCount + r.aliases.length ≤ 64 ∧ r.aliases.length ≤ 3 ∧ localListOk w.rating r.locals = true ∧
      peerListOk r.peers = true ∧ r.prio ≤ 3 ∧ (∀ p, r.watchPolicy = some p → watchPolicyOk p = true) ∧
      cyclePolicyOk r.cyclePolicy = true ∧
      ∀ e ∈ r.locals, w.inUse e.outlet = true ∧ (w.outlet e.outlet).owner = .free ∧
        (w.outlet e.outlet).releasing = false ∧ (w.outlet e.outlet).service = .inService ∧
        w.branchSum (branchOf e.outlet) +
          ((r.locals.filter fun x => branchOf x.outlet = branchOf e.outlet).map (·.res)).sum ≤
            w.ceiling (branchOf e.outlet)
    (passes → w.restoreRecord r = (w.take r.locals (.bound r.slot)).setSlot r.slot
      { counter := 1
        load := some
          { tag := r.tag, revision := 1, locals := r.locals, peers := r.peers, prio := r.prio, pop := r.pop,
            wantedOn := r.wantedOn, watchPolicy := r.watchPolicy, cyclePolicy := r.cyclePolicy,
            aliases := r.aliases, pinned := false, state := .unpowered, qReason := none, strikes := 0, notices := 0,
            staged := none, postCycleBoot := false, awaiting := true, lastOutcome := none, powerTime := none,
            startRestored := false, watch := Watch.stopped, order := none, amendSeq := none } }) ∧
    (¬ passes → w.restoreRecord r = w.raiseFlag .config)

/-! ### The queue and the gates -/

/-- R116, R117: an insertion, by the first row that matches; an entry made keeps the others in their order and takes its
place by class and arrival. -/
def Obligations.InsertionByRows : Prop :=
  ∀ (s : State) (n : Nat) (owner : Owner) (cause : QueueCause) (prio : Nat),
    let o := s.outlet n
    let u := s.insert n owner cause prio
    if s.hasEntry n = true then u = s
    else if s.inUse n = false ∨ o.adopted = false ∨ o.owner ≠ owner ∨ o.releasing = true then u = s
    else if o.service = .failed then u = s
    else if o.commanded = .closed then u = s
    else if s.phaseLost (s.phaseOf n) = true then u = s.setOutlet n { o with lineLost := true }
    else
      u.outlets = s.outlets ∧ u.queued n owner prio cause s.now ∧ u.slots = s.slots ∧ u.flags = s.flags ∧
      (s.queue.Pairwise Entry.notAfter → (∀ e ∈ s.queue, e.arrival ≤ s.now) → u.queue.Pairwise Entry.notAfter) ∧
      ∃ before after, s.queue = before ++ after ∧
        u.queue = before ++ { outlet := n, owner := owner, prio := prio, cause := cause, arrival := s.now } :: after

/-- R119 to R122: at the expiry of a branch's spacing its head is granted when the other conditions hold, and waits
with the first failing one as the hold reason otherwise; a branch without a head has none. -/
def Obligations.SpacingExpiryJudgesGate : Prop :=
  ∀ (t b d : Nat) (s : State), s.Settled → s.HalvesKept → b ∈ s.branchesInUse → (s.gate b).lastDrive = some d →
    d + s.settings.spacing * 100 ≤ max s.now t →
    ∃ u : State, exec (.spacingExpiry t b) s = .next u ∧
      let others := ∀ b' ∈ branchNumbers, b' ≠ b → u.gate b' = s.gate b'
      (s.head b = none → u.queue = s.queue ∧ u.outlets = s.outlets ∧ (u.gate b).reason = .none ∧ others) ∧
      ∀ e, s.head b = some e →
        let o := s.outlet e.outlet
        let guarded := ((s.guard b).state = .shedding ∨ (s.guard b).state = .hold) ∧ s.pinnedOwner e = false
        let fails : HoldReason :=
          if o.switching ≠ .idle then .outletBusy
          else if (s.gate b).closing ≠ none then .closeInFlight
          else if guarded then .guard
          else if 10 * s.threshold b < s.branchCurrent b + 10 * o.reservation then .headroom
          else .none
        if fails ≠ .none then u.queue = s.queue ∧ u.outlets = s.outlets ∧ (u.gate b).reason = fails ∧ others
        else o.service = .inService → o.commanded = .opened → o.adopted = true → o.releasing = false →
          e.outlet ∈ outletNumbers →
          u.queue = s.queue.filter (fun x => x.outlet != e.outlet) ∧ (u.gate b).closing = some e.outlet ∧
          (u.outlet e.outlet).commanded = .closed ∧ (u.outlet e.outlet).switching = .closing ∧
          (∃ x, (u.outlet e.outlet).drive = some x ∧ x.issued = none ∧ max s.now t ≤ x.moment ∧
            d + s.settings.spacing * 100 ≤ x.moment) ∧
          (∀ n ∈ outletNumbers, n ≠ e.outlet → u.outlet n = s.outlet n) ∧ others

/-! ### Relays and faults -/

/-- R137, R141: an open request withdraws the outlet's entry and acts by the first row that matches. -/
def Obligations.OpenRequestByRows : Prop :=
  ∀ (s : State) (n : Nat), s.HalvesKept → n ∈ outletNumbers →
    let o := s.outlet n
    let u := s.openRequest n
    u.hasEntry n = false ∧ (∀ k ∈ outletNumbers, k ≠ n → u.outlet k = s.outlet k ∧ u.hasEntry k = s.hasEntry k) ∧
    u.slots = s.slots ∧ u.flags = s.flags ∧
    match o.switching with
    | .opening => u.outlet n = o
    | .closing => u.outlet n = { o with pendingOpen := true }
    | .idle =>
      if o.commanded = .closed ∨ o.sensed = .live then
        (u.outlet n).commanded = .opened ∧ (u.outlet n).switching = .opening ∧ (u.outlet n).pendingOpen = false ∧
        ∃ d, (u.outlet n).drive = some d ∧ d.issued = none ∧ s.now ≤ d.moment
      else u.outlet n = o

/-- R123, R135, R138, R146: the drives of an operation are issued at their moment; the close drive becomes the branch's
last close drive. R133, R144: a change of the outlet-side voltage sets the sensed position; each second the patrol goes
to the next outlet in use and records a disagreement as its recheck, passing over the outlets of R144's list. That drift
held is cleared only at a change of the sensed position, and not at the request that changes the commanded one, is the
model's choice (log 30). -/
def Obligations.DrivesSensingAndPatrol : Prop :=
  (∀ (t n : Nat) (d : Drive) (s : State), s.Settled → (s.outlet n).drive = some d → d.issued = none →
    d.moment ≤ max s.now t →
    let v := s.advance t
    let w := v.setOutlet n
      { s.outlet n with
        driftHeld := false
        recheck := (s.outlet n).recheck.map fun r => { r with driven := true }
        drive := some { d with issued := some v.now } }
    ((s.outlet n).switching = .closing →
      exec (.closeDrive t n) s = .next (w.modGate (branchOf n) fun g => { g with lastDrive := some v.now })) ∧
    ((s.outlet n).switching = .opening → exec (.openDrive t n) s = .next w)) ∧
  ∀ (t : Nat) (s : State), s.Settled →
    let v := s.advance t
    (∀ n volts : Nat,
      let o := s.outlet n
      let p : Sensed := if s.inUse n = true ∧ (s.line (s.phaseOf n)).state = .up then
        (if s.settings.nominal ≤ 2 * volts then .live else .dead) else .unknown
      let agrees := (p = .live ∧ o.commanded = .closed) ∨ (p = .dead ∧ o.commanded = .opened)
      exec (.sensedPositionChange t n volts) s = .next (v.setOutlet n
        { o with volts := volts, sensed := p
                 driftHeld := if p ≠ o.sensed ∧ agrees then false else o.driftHeld })) ∧
    (s.patrol.next ≤ v.now →
      let n := if s.outletCount ≤ s.patrol.pointer then 1 else s.patrol.pointer + 1
      let o := s.outlet n
      let w : State := { v with patrol := { pointer := n, next := s.patrol.next + 100000 } }
      let passed := o.switching ≠ .idle ∨ (s.line (s.phaseOf n)).state ≠ .up ∨ o.adopted = false ∨
        o.driftHeld = true ∨ o.recheck ≠ none
      let disagrees := (o.commanded = .opened ∧ o.sensed = .live) ∨ (o.commanded = .closed ∧ o.sensed = .dead)
      exec (.patrolTick t) s = .next (if ¬ passed ∧ disagrees then
        w.setOutlet n { o with recheck := some { found := o.sensed, moment := v.now, driven := false } } else w))

/-- R136, R138 to R140, R143: a close is confirmed by LIVE, an open by DEAD without current, in the confirm window; the
outlet's fields are set first, then its owner is told, then a pending open is judged. That a confirmation taken at
exactly 50 ms still counts is the model's choice (log 27). R139: a measurement from 2 to 20 ms moves the operate time a
quarter of the way toward it, rounded toward it; that the measurement is one of the two whole numbers of ms beside the
time measured is log 8. -/
def Obligations.ConfirmationsEndOperations : Prop :=
  (∀ stored measured : Nat,
    (measured < 2 ∨ 20 < measured → learn stored measured = stored) ∧
    (2 ≤ measured → measured ≤ 20 → stored ≤ measured →
      3 * stored + measured ≤ 4 * learn stored measured ∧ 4 * learn stored measured < 3 * stored + measured + 4) ∧
    (2 ≤ measured → measured ≤ 20 → measured < stored →
      4 * learn stored measured ≤ 3 * stored + measured ∧ 3 * stored + measured < 4 * learn stored measured + 4)) ∧
  (∀ (m : Nat) (s : State),
    let ms := (s.now - m) / 100
    (s.measured m = ms ∨ s.measured m = ms + 1) ∧ (s.now - m = 100 * ms → s.measured m = ms)) ∧
  ∀ (t n volts current m : Nat) (d : Drive) (s : State), s.Settled → n ∈ outletNumbers → s.inUse n = true →
    s.phaseUp (s.phaseOf n) = true → (s.outlet n).drive = some d → d.issued = some m → max s.now t ≤ m + 5000 →
    let v := s.advance t
    let o := s.outlet n
    let ended := fun (w : State) =>
      (w.outlet n).switching = .idle ∧ (w.outlet n).drive = none ∧ (w.outlet n).volts = volts ∧
      (w.outlet n).commanded = o.commanded ∧ (w.outlet n).pendingOpen = o.pendingOpen ∧
      (w.outlet n).ops = min 4294967295 (o.ops + 1) ∧ (w.outlet n).faults = o.faults ∧
      (w.outlet n).wear = (o.wear || decide (s.settings.wearLimit ≤ min 4294967295 (o.ops + 1)))
    (o.switching = .closing → s.settings.nominal ≤ 2 * volts →
      ∃ w : State, exec (.closeConfirmed t n volts) s =
          .next ((w.told n .closeConfirmed).pendingAfterClose n).finish ∧ ended w ∧
        (w.outlet n).sensed = .live ∧ (w.outlet n).shed = false ∧ (w.outlet n).openTime = o.openTime ∧
        (w.outlet n).closeTime = (if d.aimed = true then learn o.closeTime (v.measured m) else o.closeTime) ∧
        (w.gate (branchOf n)).closing ≠ some n) ∧
    (o.switching = .opening → 2 * volts < s.settings.nominal → current < 5 →
      ∃ w : State, exec (.openConfirmed t n volts current) s = .next (w.told n .openConfirmed).finish ∧ ended w ∧
        (w.outlet n).sensed = .dead ∧ (w.outlet n).closeTime = o.closeTime ∧
        (w.outlet n).openTime = (if d.aimed = true then learn o.openTime (v.measured m) else o.openTime))

/-- R136, R138, R147, R148: a close whose window ends without LIVE is a NO_CLOSE, an open a WELDED; the fault is
charged, and the owner is told of it and of an entry that the outlet's failure withdraws. A close whose window ends with
the outlet sensed LIVE is confirmed there (log 27). R145: at a window end every recheck is judged, outlets ascending (log
10): DRIFT, which is charged and told, where the phase is up, no drive was issued since and the position found still
stands; removed without a verdict otherwise. The owner tag and the notice of a fault on an outlet still releasing after
its record was removed, those of the slot's present record, or 0 and none, are the model's choice (log 41). -/
def Obligations.ConfirmWindowsEndInFaults : Prop :=
  (∀ (t n m : Nat) (d : Drive) (s : State), s.Settled → n ∈ outletNumbers → (s.outlet n).drive = some d →
    d.issued = some m → m + 5000 ≤ max s.now t →
    let o := s.outlet n
    let loses := o.service = .inService ∧ s.settings.faultThreshold ≤ min 15 (o.faults + 1) ∧ s.hasEntry n = true
    (o.switching = .closing → o.sensed ≠ .live →
      ∃ w : State, exec (.closeConfirmWindowEnd t n) s =
          .next (State.finish ((if loses then (w.told n .noClose).told n .cancelled else w.told n .noClose
            ).pendingAfterNone n)) ∧
        s.charged w n .noClose ∧ (w.outlet n).commanded = .opened ∧ (w.outlet n).switching = .idle ∧
        (w.outlet n).drive = none ∧ (w.outlet n).ops = o.ops ∧ (w.outlet n).pendingOpen = o.pendingOpen ∧
        (w.outlet n).driftHeld = false ∧ (w.gate (branchOf n)).closing ≠ some n) ∧
    (o.switching = .closing → o.sensed = .live →
      ∃ w : State, exec (.closeConfirmWindowEnd t n) s =
          .next ((w.told n .closeConfirmed).pendingAfterClose n).finish ∧
        (w.outlet n).commanded = o.commanded ∧ (w.outlet n).switching = .idle ∧ (w.outlet n).drive = none ∧
        (w.outlet n).sensed = .live ∧ (w.outlet n).ops = min 4294967295 (o.ops + 1) ∧
        (w.outlet n).faults = o.faults ∧ (w.outlet n).pendingOpen = o.pendingOpen ∧ (w.outlet n).shed = false ∧
        (w.outlet n).closeTime = o.closeTime ∧ (w.gate (branchOf n)).closing ≠ some n) ∧
    (o.switching = .opening →
      ∃ w : State, exec (.openConfirmWindowEnd t n) s =
          .next (State.finish (if loses then (w.told n .welded).told n .cancelled else w.told n .welded)) ∧
        s.charged w n .welded ∧ (w.outlet n).commanded = o.commanded ∧ (w.outlet n).switching = .idle ∧
        (w.outlet n).drive = none ∧ (w.outlet n).ops = o.ops ∧ (w.outlet n).driftHeld = true)) ∧
  (∀ s : State, s.takeWindow .switching = outletNumbers.foldl State.judgeRecheck s) ∧
  ∀ (n : Nat) (s : State), n ∈ outletNumbers →
    let o := s.outlet n
    let u := s.judgeRecheck n
    let fails := o.service = .inService ∧ s.settings.faultThreshold ≤ min 15 (o.faults + 1)
    let undriven := o.switching = .closing ∧ ∀ d, o.drive = some d → d.issued = none
    (o.recheck = none → u = s) ∧
    ∀ r, o.recheck = some r →
      let drift := s.phaseUp (s.phaseOf n) = true ∧ r.driven = false ∧ o.sensed = r.found
      (¬ drift → u = s.setOutlet n { o with recheck := none }) ∧
      (drift → ∃ w : State,
        (fails → undriven → u = ((w.told n .drift).told n .cancelled).pendingAfterNone n) ∧
        (fails → ¬ undriven → s.hasEntry n = true → u = (w.told n .drift).told n .cancelled) ∧
        (¬ fails ∨ (¬ undriven ∧ s.hasEntry n = false) → u = w.told n .drift) ∧
        s.charged w n .drift ∧ (w.outlet n).recheck = none ∧ (w.outlet n).driftHeld = true ∧
        (w.outlet n).sensed = o.sensed ∧ (w.outlet n).pendingOpen = o.pendingOpen ∧
        (fails ∧ undriven → (w.outlet n).commanded = .opened ∧ (w.outlet n).switching = .idle ∧
          (w.outlet n).drive = none ∧ (w.gate (branchOf n)).closing ≠ some n) ∧
        (¬ fails ∨ ¬ undriven → (w.outlet n).commanded = o.commanded ∧ (w.outlet n).switching = o.switching ∧
          (w.outlet n).drive = o.drive))

/-- R143: what the owner of an outlet is told at the end of an operation, by its kind. R10: a release frees the outlet.
R54, R55: a start is judged for completion. R58: a stop is. R96, R98, R101, R103, R105: a cycle takes the end by its
phase (a WELDED in OPENING on an open the cycle did not ask for fails it too: log 36). R194: the pending answer of a
lending is judged, at the end of an operation and at the freeing of a releasing outlet: UNBOUND goes out at the last
freeing (R191), and an awaited outlet freed by a RECLAIM leaves the set, or ends the answer as DROP_REFUSED or
RAISE_FAILED(0). Any other owner is left as it is. R141, R194: the pending open after the close. -/
def Obligations.OwnersToldOfEnds : Prop :=
  (∀ (n : Nat) (e : Ended) (s : State), n ∈ outletNumbers →
    let u := s.told n e
    ((s.outlet n).releasing = true →
      if e = .openConfirmed ∨ e = .welded ∨ e = .lineLoss then
        (u.outlet n).owner = .free ∧ (u.outlet n).reservation = 0 ∧ (u.outlet n).releasing = false ∧
        (u.outlet n).shed = false ∧ (u.outlet n).lineLost = false ∧ (u.outlet n).dropHold = none ∧
        u.slots = s.slots ∧ u.queue = s.queue ∧ (∀ k ∈ outletNumbers, k ≠ n → u.outlet k = s.outlet k) ∧
        ((∀ tag k p, (s.outlet n).owner ≠ .lent tag k p) → u.link = s.link) ∧
        ∀ tag k p, (s.outlet n).owner = .lent tag k p →
          ((∀ a, s.answerOf tag = some a → n ∉ a.awaited) → u.link = s.link) ∧
          ∀ a, s.answerOf tag = some a → n ∈ a.awaited →
            let unanswered : State :=
              { s with link := { s.link with answers := s.link.answers.filter fun x => x.tag != tag } }
            let sends := fun (f : LinkFrame) => u.link = (unanswered.transmit f).link
            let left := a.awaited.filter fun j => j != n
            let leaves := fun (f : LinkFrame) =>
              (left = [] → sends f) ∧
              (left ≠ [] → u.link = { s.link with answers := unanswered.link.answers ++
                [{ a with awaited := left, reopen := a.reopen.filter fun j => j != n }] })
            let held := ∃ j ∈ outletNumbers, (s.outlet j).lentTo tag = true ∧ (s.outlet j).releasing = false
            match a.kind with
            | .unbound => leaves (.unbound tag a.order)
            | .dropped => (held → leaves (.dropped tag a.order)) ∧ (¬ held → sends (.dropRefused tag a.order))
            | .raised => (held → leaves (.raised tag a.order)) ∧ (¬ held → sends (.raiseFailed tag a.order 0))
      else u = s) ∧
    ((s.outlet n).releasing = false → (s.outlet n).owner = .free → u = s)) ∧
  (∀ (n i : Nat) (e : Ended) (l : Load) (s : State), (s.outlet n).releasing = false →
    (s.outlet n).owner = .bound i → s.load i = some l →
    let u := s.told n e
    (l.state ≠ .starting → l.state ≠ .stopping → l.state ≠ .cycling → u = s) ∧
    (l.state = .starting →
      let complete := (∀ k ∈ l.outlets, s.hasEntry k = false ∧ (s.outlet k).switching ≠ .closing) ∧
        ∀ r, l.order = some r → r.kind ≠ .raise
      let closed := ∃ k ∈ l.outlets, (s.outlet k).commanded = .closed
      let dark := (∃ k ∈ l.outlets, (s.outlet k).lineLost = true) ∧
        ∀ k ∈ l.outlets, (s.outlet k).service = .inService → (s.outlet k).lineLost = true
      (e = .lineLoss ∨ ¬ complete → u = s) ∧
      (e ≠ .lineLoss → complete → u.outlets = s.outlets ∧ u.queue = s.queue ∧
        ∃ m, u.load i = some m ∧ m.wantedOn = l.wantedOn ∧ m.strikes = l.strikes ∧
          (closed ∨ l.peers ≠ [] → m.state = .on ∧ m.powerTime = some s.now ∧ m.postCycleBoot = false ∧
            (l.startRestored = true → hasNotice m.notices .restored = true) ∧
            m.watch = match l.watchPolicy with
              | none => Watch.stopped
              | some p => { Watch.stopped with sub := .boot, boot := some (s.now + p.grace * 100000) }) ∧
          (¬ closed → l.peers = [] → dark → m.state = .dark ∧ hasNotice m.notices .dark = true) ∧
          (¬ closed → l.peers = [] → ¬ dark → m.state = .unpowered))) ∧
    (l.state = .stopping →
      let complete := (∀ k ∈ l.outlets, (s.outlet k).settledOpen = true) ∧ ∀ r, l.order = some r → r.kind ≠ .drop
      (¬ complete → u = s) ∧
      (complete → u.outlets = s.outlets ∧ u.queue = s.queue ∧
        ∃ m, u.load i = some m ∧ m.state = .unpowered ∧ m.wantedOn = l.wantedOn)) ∧
    (l.state = .cycling → s.contextOf i = none → u = s) ∧
    ∀ k c, l.state = .cycling → s.contextOf i = some k → s.context k = some c →
      let failed := fun (c : Context) => match c.pending with
        | some (.failed _) => c
        | _ => { c with pending := some (.failed .outletFault) }
      let settles := fun (c : Context) =>
        if n ∈ c.progress then c else { c with progress := n :: c.progress }
      let closes := ∀ ns, ns ∈ l.outlets → s.insertable ns (.bound i) →
        (∀ j ∈ l.outlets, (s.outlet j).service = .inService → s.phaseLost (s.phaseOf j) = false) →
        u.queued ns (.bound i) l.prio .cycle s.now ∧
        ∃ y, u.context k = some y ∧ y.phase = .closing ∧ y.slot = i ∧ y.cause = c.cause ∧
          y.pending = (failed c).pending ∧
          (c.peer ≠ .none → s.link.presence = .up → y.peer = .asked ∧
            u.link.tx = s.link.tx ++ [.raise l.tag s.link.counter])
      let settled := fun (c : Context) =>
        ((∃ j ∈ l.outlets, j ∉ c.progress) ∨ c.peer = .asked → u = s.setContext k (some c)) ∧
        ((∀ j ∈ l.outlets, j ∈ c.progress) → c.peer ≠ .asked → s.waitList = [] →
          u.context k = none ∧ ∃ m, u.load i = some m ∧ m.state = .on ∧ m.powerTime = some s.now ∧
            m.lastOutcome = some
              { outcome := match c.pending with
                  | none => .done
                  | some .cancelled => .cancelled
                  | some (.failed r) => .failed r
                cause := c.cause } ∧
            ((∃ r, c.pending = some (.failed r)) → hasNotice m.notices .cycleFailed = true) ∧
            ((∀ r, c.pending ≠ some (.failed r)) → hasNotice m.notices .cycleDone = true))
      match c.phase, e with
      | .opening, .openConfirmed =>
        ((∃ j ∈ l.outlets, j ∉ (settles c).progress) ∨ c.peer = .asked → u = s.setContext k (some (settles c))) ∧
        ((∀ j ∈ l.outlets, j ∈ (settles c).progress) → c.peer ≠ .asked →
          u = s.setContext k (some { c with
            phase := .dwell, progress := [], deadline := some (s.now + l.cyclePolicy.dwell * 100000) }))
      | .opening, .noClose => closes
      | .opening, .welded => closes
      | .opening, .drift => (n ∈ c.progress → closes) ∧ (n ∉ c.progress → u = s)
      | .dwell, .drift => closes
      | .closing, .closeConfirmed => settled (settles c)
      | .closing, .noClose => settled (settles (failed c))
      | .closing, .cancelled => settled (settles (failed c))
      | .closing, .welded =>
        ((s.outlet n).service = .failed → settled (settles (failed c))) ∧
        ((s.outlet n).service = .inService → u = s.setContext k (some (failed c)))
      | .closing, .drift =>
        ((s.outlet n).service = .failed → settled (settles (failed c))) ∧
        ((s.outlet n).service = .inService → u = s.setContext k (some (failed c)))
      | _, _ => u = s) ∧
  (∀ (n : Nat) (e : Ended) (tag : Tag) (order prio : Nat) (s : State), (s.outlet n).releasing = false →
    (s.outlet n).owner = .lent tag order prio →
    let u := s.told n e
    (s.answerOf tag = none → u = s) ∧
    ∀ a, s.answerOf tag = some a →
      let unanswered : State := { s with link := { s.link with answers := s.link.answers.filter fun x => x.tag != tag } }
      let leaves := fun (f : LinkFrame) =>
        let left := a.awaited.filter fun k => k != n
        (left = [] → u = unanswered.transmit f) ∧
        (left ≠ [] → u = { s with link := { s.link with answers := unanswered.link.answers ++
          [{ a with awaited := left, reopen := a.reopen.filter fun k => k != n }] } })
      let fails := u = unanswered.transmit (.raiseFailed tag a.order n)
      (n ∉ a.awaited → u = s) ∧
      (n ∈ a.awaited → match a.kind, e with
        | .dropped, .openConfirmed => leaves (.dropped tag a.order)
        | .dropped, .lineLoss => leaves (.dropped tag a.order)
        | .dropped, .welded => u = unanswered
        | .raised, .closeConfirmed =>
          (n ∈ a.reopen → u = s) ∧ (n ∉ a.reopen → leaves (.raised tag a.order))
        | .raised, .noClose => fails
        | .raised, .lineLoss => fails
        | .raised, .cancelled => fails
        | _, _ => u = s)) ∧
  ∀ (n : Nat) (s : State), n ∈ outletNumbers →
    let o := s.outlet n
    let u := s.pendingAfterClose n
    (o.pendingOpen = false → u = s ∧ s.pendingAfterNone n = s) ∧
    (o.pendingOpen = true →
      s.pendingAfterNone n = (s.setOutlet n { o with pendingOpen := false }).told n .openConfirmed ∧
      (u.outlet n).commanded = .opened ∧ (u.outlet n).switching = .opening ∧ (u.outlet n).pendingOpen = false ∧
      (∃ d, (u.outlet n).drive = some d ∧ d.issued = none) ∧
      ∀ tag k p a, o.owner = .lent tag k p → s.answerOf tag = some a → a.kind = .raised → n ∈ a.awaited →
        n ∈ a.reopen →
        u.answerOf tag = some { a with reopen := a.reopen.filter fun k => k != n } ∧
        (s.hasEntry n = false → s.inUse n = true → o.adopted = true → o.releasing = false →
          o.service = .inService → s.phaseLost (s.phaseOf n) = false →
          u.queued n (.lent tag k p) p .peerRaise s.now))

/-! ### Metering and line state -/

/-- R152 to R155: what a window end forms, before the blocks take it in the order given: the figures of each outlet, the
current of each branch, and of each phase the voltage, the current as the sum of its branches, and the frequency, the
reciprocal of twice the mean in-range half-cycle, given as one of the two whole numbers beside it (log 8). -/
def Obligations.WindowFiguresFormed : Prop :=
  ∀ (t : Nat) (r : WindowReading) (s : State), s.Settled →
    (if s.meter.locked = true then 20 ≤ s.meter.crossings else s.meter.start + 20000 ≤ max s.now t) →
    let v := s.advance t
    let len := Config.nearest .windowLength (v.now - s.meter.start) 100
    ∃ u : State, exec (.windowEnd t r) s = .next ((takers r.order).foldl State.takeWindow u).finish ∧
      u.meter.number = (s.meter.number + 1) % 65536 ∧ u.meter.start = v.now ∧ u.meter.lastEnd = some v.now ∧
      u.meter.crossings = 0 ∧
      (∀ n ∈ s.outletsInUse,
        let m := readingOf r n
        let sum := (s.outlet n).residue + (u.outlet n).power * len
        (u.outlet n).current = min 65535 m.current ∧ (u.outlet n).power = min 65535 m.power.toNat ∧
        (u.outlet n).energy = ((s.outlet n).energy + sum / 36000) % 1099511627776 ∧
        (u.outlet n).residue = sum % 36000 ∧
        ((u.outlet n).offset = none ↔
          (u.outlet n).current ≤ 10 ∨ (s.line (s.phaseOf n)).winLocked = false) ∧
        (u.outlet n).commanded = (s.outlet n).commanded) ∧
      (∀ b ∈ s.branchesInUse, u.branchCurrent b =
        ((s.outletsInUse.filter fun n => branchOf n = b).map fun n => (u.outlet n).current).sum) ∧
      (∀ p : Phase, (u.line p).volts = readingVolts r p ∧ (u.line p).state = (s.line p).state ∧
        (u.line p).current = ((s.branchesOn p).map u.branchCurrent).sum ∧
        ((s.line p).winCount = 0 → (u.line p).freq = 0) ∧
        (0 < (s.line p).winCount →
          let num := 5000000 * (s.line p).winCount
          let den := (s.line p).winSum
          ((u.line p).freq = num / den ∨ (u.line p).freq = num / den + 1) ∧
            (num % den = 0 → (u.line p).freq = num / den)) ∧
        (u.line p).winCount = 0 ∧
        (u.line p).winLocked = (s.line p).locked) ∧
      u.queue = s.queue ∧ u.slots = s.slots

/-- R156, R158, R159: a crossing at a phase whose peak does not fail, and the half-cycle still running at 11.11 ms: every
field of the phase and of the running window (a crossing at the very moment of the check: log 26; one that ends the
window and the lock at once: log 40). R158 to R160, R19, R142, R177: the judgements of a phase, at a peak that fails, at
the third missed crossing, at a good run of 2 s and at the 3 s limit; a loss drives every outlet of the phase open and
gives owned closed outlets the line-lost marker. R20, R21: each first judgement ends with the cold-start decision of the
loads it leaves with every outlet adopted, slots ascending (an outlet opened by line loss before the decision counts as
not closed: log 32). The check of a half-cycle before 11.11 ms, or a second one, changes nothing but the time: log 3. -/
def Obligations.LineStateJudged : Prop :=
  (∀ (t c : Nat) (p : Phase) (rms peak : Nat) (s : State), s.Settled → (s.line p).lastCross = some c →
    let v := s.advance t
    let l := s.line p
    let d := v.now - c
    let good := 769 ≤ d ∧ d ≤ 1111 ∧ l.timedOut = false
    let within := fun e => v.now ≤ e + 100 ∧ e ≤ v.now + 100
    let answers := within l.expected ∨ ∃ e, l.prevExpected = some e ∧ within e
    ((l.state = .up → 49 * (s.settings.nominal * s.settings.nominal) ≤ 50 * (peak * peak)) →
      ∃ u : State, exec (.phaseCrossing t p rms peak) s = .next u ∧ (u.line p).lastCross = some v.now ∧
        (u.line p).timedOut = false ∧ (u.line p).state = l.state ∧ (∀ q, q ≠ p → u.line q = s.line q) ∧
        u.outlets = s.outlets ∧ u.slots = s.slots ∧ u.queue = s.queue ∧
        u.meter.crossings = s.meter.crossings + (if p = .l1 then 1 else 0) ∧
        u.meter.locked = (s.meter.locked && ((u.line .l1).locked || decide (20 ≤ u.meter.crossings))) ∧
        u.meter = { s.meter with locked := u.meter.locked, crossings := u.meter.crossings } ∧
        (u.line p).volts = l.volts ∧ (u.line p).freq = l.freq ∧ (u.line p).current = l.current ∧
        (good → (u.line p).run = min 16 (l.run + 1) ∧ (u.line p).halves = (d :: l.halves).take 16 ∧
          ((u.line p).locked = true ↔ l.locked = true ∨ 16 ≤ l.run + 1) ∧ (u.line p).winSum = l.winSum + d ∧
          (u.line p).winCount = l.winCount + 1 ∧ (u.line p).winLocked = l.winLocked) ∧
        (¬ good → (u.line p).run = 0 ∧ (u.line p).locked = false ∧ (u.line p).halves = l.halves ∧
          (u.line p).winSum = l.winSum ∧ (u.line p).winCount = l.winCount ∧ (u.line p).winLocked = false) ∧
        (l.state = .up → (u.line p).expected = v.now + (u.line p).half ∧ (u.line p).prevExpected = none ∧
          (answers → (u.line p).missed = 0) ∧ (¬ answers → (u.line p).missed = l.missed) ∧
          (u.line p).goodRun = none) ∧
        (l.state ≠ .up → (u.line p).expected = l.expected ∧ (u.line p).prevExpected = l.prevExpected ∧
          (u.line p).missed = l.missed ∧
          (good ∧ 17 * s.settings.nominal ≤ 20 * rms → (u.line p).goodRun = some (l.goodRun.getD c)) ∧
          (¬ (good ∧ 17 * s.settings.nominal ≤ 20 * rms) → (u.line p).goodRun = none))) ∧
    (c + 1111 ≤ v.now → l.timedOut = false →
      ∃ u : State, exec (.halfCycleTimeout t p) s = .next u ∧
        u.line p = { l with run := 0, locked := false, winLocked := false, timedOut := true, goodRun := none } ∧
        u.meter = { s.meter with
          locked := s.meter.locked && ((u.line .l1).locked || decide (20 ≤ s.meter.crossings)) } ∧
        u.outlets = s.outlets ∧ u.slots = s.slots ∧ u.queue = s.queue ∧ ∀ q, q ≠ p → u.line q = s.line q) ∧
    (v.now < c + 1111 ∨ l.timedOut = true → exec (.halfCycleTimeout t p) s = .next v)) ∧
  (∀ (t : Nat) (p : Phase) (rms peak : Nat) (s : State), s.Settled → (s.line p).lastCross = none →
    (s.line p).state ≠ .up →
    ∃ u : State, exec (.phaseCrossing t p rms peak) s = .next u ∧ u.outlets = s.outlets ∧
      u.line p = { s.line p with lastCross := some (max s.now t), timedOut := false } ∧
      ∀ q, q ≠ p → u.line q = s.line q) ∧
  (∀ (t : Nat) (p : Phase) (s : State), s.Settled →
    let v := s.advance t
    let l := s.line p
    let lost := fun (u : State) =>
      (u.line p).state = .lost ∧ u.flags.line = true ∧
      ∀ n ∈ s.outletsOn p, (u.outlet n).commanded = .opened ∧ (u.outlet n).switching = .idle ∧
        (u.outlet n).sensed = .unknown ∧ u.hasEntry n = false
    (∀ rms peak, l.state = .up → l.lastCross ≠ none →
      50 * (peak * peak) < 49 * (s.settings.nominal * s.settings.nominal) →
      ∃ u : State, exec (.phaseCrossing t p rms peak) s = .next u.finish ∧ lost u) ∧
    (l.state = .up → l.expected + 100 ≤ v.now →
      (l.missed < 2 → exec (.missedCrossingCheck t p) s = .next (v.modLine p fun l =>
        { l with missed := l.missed + 1, prevExpected := some l.expected, expected := l.expected + l.half })) ∧
      (2 ≤ l.missed → ∃ u : State, exec (.missedCrossingCheck t p) s = .next u.finish ∧ lost u ∧
        (s.waitList = [] → ∀ n ∈ s.outletsOn p, (s.outlet n).commanded = .closed → (s.outlet n).owner ≠ .free →
          (s.outlet n).releasing = false → (s.outlet n).pendingOpen = false → (u.outlet n).lineLost = true))) ∧
    (∀ g, l.goodRun = some g → g + 200000 ≤ v.now →
      (l.state = .unknown → ∃ u : State, exec (.goodRunComplete t p) s = .next u.finish ∧ (u.line p).state = .up ∧
        ∀ n ∈ s.outletsOn p, (u.outlet n).adopted = true ∧
          ((s.outlet n).adopted = false → s.settings.nominal ≤ 2 * (s.outlet n).volts →
            (s.outlet n).owner ≠ .free → (u.outlet n).commanded = .closed)) ∧
      (l.state = .unknown → ∃ w : State, exec (.goodRunComplete t p) s = .next w.decideAll.finish ∧
        w.slots = s.slots ∧ ∀ n ∈ s.outletsOn p, (w.outlet n).adopted = true ∧
          ((s.outlet n).adopted = false → (s.outlet n).settledOpen = true →
            let live := s.settings.nominal ≤ 2 * (s.outlet n).volts
            let free := (s.outlet n).owner = .free
            (live → ¬ free → (w.outlet n).commanded = .closed ∧ (w.outlet n).switching = .idle) ∧
            (live → free → (w.outlet n).commanded = .opened ∧ (w.outlet n).switching = .opening) ∧
            (¬ live → (w.outlet n).settledOpen = true))) ∧
      (l.state = .lost → ∃ u : State, exec (.goodRunComplete t p) s = .next u.finish ∧ (u.line p).state = .up ∧
        (u.line p).missed = 0 ∧ u.flags.line = true ∧
        ∀ n ∈ s.outletsOn p, (u.outlet n).sensed =
          if s.settings.nominal ≤ 2 * (s.outlet n).volts then .live else .dead)) ∧
    (l.state = .unknown → s.restoredAt + 300000 ≤ v.now →
      ∃ u w : State, exec (.firstJudgementLimit t p) s = .next u.finish ∧ lost u ∧ u = w.decideAll ∧
        ∀ n ∈ s.outletsOn p, (u.outlet n).adopted = true ∧ (w.outlet n).adopted = true ∧
          (w.outlet n).settledOpen = true ∧
          ((s.outlet n).adopted = false → (s.outlet n).releasing = false →
            ((w.outlet n).lineLost = true ↔ (s.outlet n).owner ≠ .free)))) ∧
  ∀ s : State, s.ListsOwned →
    let u := s.decideAll
    (u = s.occupied.foldl (fun w i => match w.load i with
      | some l => if l.awaiting && (l.outlets.all fun n => (w.outlet n).adopted) then w.decideLoad i else w
      | none => w) s ∧ s.occupied.Pairwise (· < ·)) ∧
    u.link = s.link ∧ u.lines = s.lines ∧
    (∀ n, u.outlet n = { s.outlet n with lineLost := (u.outlet n).lineLost }) ∧
    ∀ i l, s.load i = some l →
      (¬ s.decidable l → u.load i = some l) ∧
      (s.decidable l → l.state = .unpowered → ∃ m, u.load i = some m ∧ s.decidedAs u i l m)

/-- R109 to R111, R177, R178: what the line-loss release of a phase makes of the loads it reaches, by their state, and of
the phase's branches, in the step of the third missed crossing as at every loss. R127, R179: what the return of a phase
makes of its line-lost outlets, local and LENT, in the step of PHASE_RETURN. That a load which goes DARK keeps the
entries of its outlets on other phases is the model's reading (R124, R129: log 17), and so is that a DARK load is
restarted whatever its wanted-on (R127 against R65: log 45); the class of the entries that an abandonment into ON makes
is the one after a latch (log 52). -/
def Obligations.LineLossAndReturnPlace : Prop :=
  (∀ (t : Nat) (p : Phase) (s : State), s.Settled →
    let v := s.advance t
    let l := s.line p
    (l.state = .up → l.expected + 100 ≤ v.now → 2 ≤ l.missed →
      exec (.missedCrossingCheck t p) s = .next ((v.modLine p fun l =>
        { l with missed := 3, prevExpected := some l.expected, expected := l.expected + l.half }).phaseLoss p).finish) ∧
    ∀ g, l.state = .lost → l.goodRun = some g → g + 200000 ≤ v.now →
      exec (.goodRunComplete t p) s = .next (v.phaseReturn p).finish) ∧
  (∀ (p : Phase) (s : State), s.ListsOwned →
    let u := s.phaseLoss p
    let on := fun n => n ∈ s.outletsOn p
    let reached := fun (l : Load) => ∃ n ∈ l.outlets, on n ∧
      ((s.outlet n).commanded = .closed ∨ (s.outlet n).switching ≠ .idle ∨ s.hasEntry n = true)
    let marked := fun n => (s.outlet n).lineLost = true ∨
      on n ∧ (((s.outlet n).commanded = .closed ∧ (s.outlet n).pendingOpen = false) ∨ s.hasEntry n = true)
    let closed := fun (l : Load) => ∃ n ∈ l.outlets, ¬ on n ∧ (s.outlet n).commanded = .closed
    let lone := ∀ j, s.contextOf j ≠ none → ∀ n ∈ s.localsOf j, ¬ on n
    (∀ i l, s.load i = some l →
      let outside := s.contextOf i = none ∧ s.waiting i = false
      (l.state = .on → outside → l.peers ≠ [] ∨ closed l ∨ ¬ reached l → u.load i = some l) ∧
      (l.state = .on → outside → l.peers = [] → ¬ closed l → reached l → (∃ n ∈ l.outlets, marked n) →
        ∃ m, u.load i = some m ∧ m.state = .dark ∧ hasNotice m.notices .dark = true ∧ m.wantedOn = l.wantedOn ∧
          m.watch = Watch.stopped ∧ (l.postCycleBoot = true → m.staged = none) ∧
          ∀ n ∈ l.outlets, (on n → u.hasEntry n = false) ∧ (¬ on n → u.entryOf n = s.entryOf n)) ∧
      (l.state = .starting → outside →
        let complete := (∀ n ∈ l.outlets, ¬ on n → s.hasEntry n = false ∧ (s.outlet n).switching ≠ .closing) ∧
          ∀ r, l.order = some r → r.kind ≠ .raise
        let dark := (∃ n ∈ l.outlets, marked n) ∧ ∀ n ∈ l.outlets, (s.outlet n).service = .inService → marked n
        (¬ reached l ∨ ¬ complete → u.load i = some l) ∧
        (reached l → complete → ∃ m, u.load i = some m ∧ m.wantedOn = l.wantedOn ∧
          (closed l ∨ l.peers ≠ [] → m.state = .on) ∧ (¬ closed l → l.peers = [] → dark → m.state = .dark) ∧
          (¬ closed l → l.peers = [] → ¬ dark → m.state = .unpowered))) ∧
      (l.state = .quarantined ∨ l.state = .stranded → outside → u.load i = some l) ∧
      (∀ k c, l.state = .cycling → s.contextOf i = some k → s.context k = some c → c.phase ≠ .dwell → reached l →
        s.waitList = [] →
        u.context k = none ∧ (∀ n ∈ l.outlets, on n → (s.outlet n).service = .inService →
          (u.outlet n).lineLost = true) ∧
        ∃ m, u.load i = some m ∧ m.lastOutcome = some { outcome := .abandoned .lineLoss, cause := c.cause } ∧
          m.wantedOn = l.wantedOn ∧
          (c.phase = .opening → c.peer ≠ .none → l.peers ≠ [] → s.link.presence = .up →
            ∃ o, m.order = some o ∧ o.kind = .raise ∧ o.sender = .load ∧
              o.deadline = s.now + s.settings.raiseLimit * 100000 ∧ .raise l.tag o.number ∈ u.link.tx) ∧
          (c.phase = .closing → m.order = l.order.map fun o =>
            if o.sender = .cycle then { o with sender := .load } else o) ∧
          (l.peers = [] → ¬ closed l → m.state = .dark ∧ hasNotice m.notices .dark = true ∧ m.staged = none ∧
            ∀ n ∈ l.outlets, (on n → u.hasEntry n = false) ∧ (¬ on n → u.entryOf n = s.entryOf n)) ∧
          (l.peers ≠ [] ∨ closed l → m.state = .on ∧ m.powerTime = some s.now ∧
            ∀ n ∈ l.outlets, s.phaseOf n ≠ p → s.insertable n (.bound i) → s.phaseUp (s.phaseOf n) = true →
              u.queued n (.bound i) m.prio .cycle s.now)) ∧
      (∀ k c, l.state = .cycling → s.contextOf i = some k → s.context k = some c → c.phase = .dwell → s.waitList = [] →
        u.load i = some l ∧ u.context k = some c) ∧
      (l.state = .cycling → s.contextOf i = none → lone → u.load i = some l ∧ u.waitList = s.waitList)) ∧
    (lone → ∀ n ∈ s.outletsOn p, (s.outlet n).owner ≠ .free → (s.outlet n).releasing = false → marked n →
      (u.outlet n).lineLost = true) ∧
    ∀ b ∈ s.branchesOn p, (u.guard b).state = .normal ∧ (u.guard b).overCount = 0 ∧ (u.guard b).settle = none ∧
      (u.guard b).restoreStart = none ∧
      (s.waitList = [] → (∀ n ∈ s.outletsOn p, (s.outlet n).releasing = false) →
        (u.guard b).list = (s.guard b).list)) ∧
  ∀ (p : Phase) (s : State), s.ListsOwned →
    let u := s.phaseReturn p
    let skips := fun n => (s.outlet n).service = .failed ∨ s.hasEntry n = true
    let ready := fun n => (s.outlet n).adopted = true ∧ (s.outlet n).commanded = .opened
    (∀ i l n, s.load i = some l → n ∈ l.outlets → n ∈ s.outletsOn p → (s.outlet n).lineLost = true →
      let returns := l.wantedOn = true ∧ (l.state = .on ∨ l.state = .starting ∨ l.state = .stranded ∨
        l.state = .quarantined ∨ s.waiting i = true)
      (u.outlet n).lineLost = false ∧ (skips n → u.hasEntry n = s.hasEntry n) ∧
      (¬ skips n → ready n → l.state = .dark →
        u.queued n (.bound i) l.prio .restore s.now ∧
        (∀ k ∈ l.outlets, (s.outlet k).service = .inService → s.phaseOf k ≠ p → s.inUse k = true →
          s.phaseLost (s.phaseOf k) = true → (u.outlet k).lineLost = true) ∧
        ∃ m, u.load i = some m ∧ m.state = .starting ∧ m.wantedOn = true ∧ m.startRestored = true) ∧
      (¬ skips n → ready n → l.state ≠ .dark → returns → u.queued n (.bound i) l.prio .restore s.now) ∧
      (¬ skips n → l.state ≠ .dark → ¬ returns → u.hasEntry n = false) ∧
      (l.state ≠ .dark → u.load i = some l)) ∧
    (∀ n tag k c, n ∈ s.outletsOn p → (s.outlet n).owner = .lent tag k c → (s.outlet n).lineLost = true →
      (u.outlet n).lineLost = false ∧
      (skips n ∨ (s.outlet n).releasing = true ∨ (s.outlet n).dropHold ≠ none → u.hasEntry n = s.hasEntry n) ∧
      (¬ skips n → (s.outlet n).releasing = false → (s.outlet n).dropHold = none → ready n →
        u.queued n (.lent tag k c) c .restore s.now)) ∧
    ∀ b ∈ branchNumbers, (u.guard b).state = (s.guard b).state ∧ ∀ e ∈ (s.guard b).list,
      (∀ i, e.victim = .slot i → s.loadIn i .dark = false) → e ∈ (u.guard b).list

/-! ### Branch guard -/

/-- R166, R172, R173: the window end at one branch's guard: over-counting, on a phase that is not up too and to 5 at most
(log 11), the trip, settling, and the restore test in HOLD, and in NORMAL and RESTORING with a non-empty shed list
(orders: log 10), with what the restore makes of the list's LOAD, CORD and LENT entries under AUTO and MANUAL (a drop
hold: log 44). -/
def Obligations.GuardTripsSettlesAndRestores : Prop :=
  ∀ (b : Nat) (s : State), b ∈ branchNumbers →
    let u := s.guardBranch b
    let g := s.guard b
    let overCount := 10 * s.threshold b < s.branchCurrent b
    let trips := s.phaseUp (phaseOfBranch s.branchCount b) = true ∧ overCount ∧ 4 ≤ g.overCount
    let taken := if s.candidates b = [] then none else some 0
    (g.state ≠ .shedding → trips →
      u = State.shedStep (((s.modGuard b fun r =>
        { r with state := .shedding, overCount := 0, restoreStart := none }).gateDue b).raiseFlag .branchGuard) b ∧
      (u.guard b).state = .shedding ∧ (u.guard b).overCount = 0 ∧ (u.guard b).restoreStart = none ∧
      (u.guard b).settle = taken ∧ u.flags.branchGuard = true) ∧
    (∀ k, g.state = .shedding → g.settle = some k → k < 2 →
      u = s.modGuard b fun r => { r with settle := some (k + 1) }) ∧
    (g.state = .shedding → (g.settle = none ∨ ∃ k, g.settle = some k ∧ 2 ≤ k) →
      if 10 * (s.threshold b - s.settings.hysteresis) < s.branchCurrent b then
        u = s.shedStep b ∧ (u.guard b).state = .shedding ∧ (u.guard b).settle = taken
      else
        u = (s.modGuard b fun r => { r with state := .hold, settle := none, restoreStart := none }).gateDue b) ∧
    (g.state ≠ .shedding → ¬ trips →
      let count := if overCount then min 5 (g.overCount + 1) else 0
      let listed := ((g.list.flatMap (·.outlets)).filter fun n => branchOf n = b).map fun n => (s.outlet n).reservation
      let passes := s.branchCurrent b + 10 * listed.sum ≤ 10 * s.ceiling b
      let start := g.restoreStart.getD s.now
      if g.state ≠ .hold ∧ g.list = [] then u = s.modGuard b fun r => { r with overCount := count }
      else if ¬ passes then u = s.modGuard b fun r => { r with overCount := count, restoreStart := none }
      else if s.now < start + s.settings.restoreDelay * 100000 then
        u = s.modGuard b fun r => { r with overCount := count, restoreStart := some start }
      else
        (u.guard b).state = .restoring ∧ (u.guard b).restoreStart = none ∧ (u.guard b).overCount = count ∧
        (∀ b' ∈ branchNumbers, b' ≠ b → (u.guard b').state = (s.guard b').state) ∧ u.ext.active = s.ext.active ∧
        (s.ListsOwned → s.restored u (s.restoreMode b) g.list (u.guard b).list))

/-- R167 to R171: who the candidates of a shed step are, that the victim comes first by the five ranks, what the shed does
to a single-feed load, a dual-corded load and a lent owner, the shed list entry made, and the settle count. Where two
STARTING loads have one class their power times are compared, an outlet already marked keeps its entry, and a cord shed
that withdraws the last entry of a start completes it: log 16. -/
def Obligations.VictimChosenAndShed : Prop :=
  ∀ (b : Nat) (s : State), b ∈ branchNumbers →
    (∀ i p st pw, .load i p st pw ∈ s.candidates b ↔ ∃ l, s.load i = some l ∧ (l.state = .on ∨ l.state = .starting) ∧
      l.pinned = false ∧ (∃ n ∈ l.outlets, branchOf n = b ∧ (s.outlet n).commanded = .closed) ∧ p = l.prio ∧
      (st = true ↔ l.state = .starting) ∧ pw = match l.powerTime with | some x => x + 1 | none => 0) ∧
    (∀ tag p n, .lent tag p n ∈ s.candidates b ↔ n ∈ s.outletsInUse ∧ branchOf n = b ∧
      (∃ k, (s.outlet n).owner = .lent tag k p) ∧ (s.outlet n).commanded = .closed ∧
      (s.outlet n).releasing = false) ∧
    (s.candidates b = [] → s.shedStep b = s.modGuard b fun g => { g with settle := none }) ∧
    (s.candidates b ≠ [] → ∃ c, firstCandidate (s.candidates b) = some c ∧
      s.shedStep b = (s.shedVictim b c).modGuard b fun g => { g with settle := some 0 }) ∧
    ∀ c, firstCandidate (s.candidates b) = some c →
      let u := s.shedVictim b c
      c ∈ s.candidates b ∧ (∀ d ∈ s.candidates b, c.first d) ∧ u.ext = s.ext ∧
      (∀ b' ∈ branchNumbers, b' ≠ b → u.guard b' = s.guard b') ∧
      (∀ i p st pw l, c = .load i p st pw → s.load i = some l →
        let ns := if l.peers = [] then l.outlets else l.outlets.filter fun n => branchOf n = b
        let complete := (∀ n ∈ l.outlets, (s.outlet n).switching ≠ .closing) ∧
          (∀ n ∈ l.outlets, branchOf n ≠ b → s.hasEntry n = false) ∧ ∀ o, l.order = some o → o.kind ≠ .raise
        recordedAs (.slot i) (if l.peers = [] then .load else .cord) (s.freshOf ns) (s.guard b).list (u.guard b).list ∧
        (∀ n ∈ ns, n ∈ outletNumbers → u.hasEntry n = false ∧ Outlet.openAsked (s.outlet n) (u.outlet n) ∧
          ((s.outlet n).commanded = .closed ∨ s.hasEntry n = true → (u.outlet n).shed = true)) ∧
        (∀ n ∈ outletNumbers, n ∉ ns → u.outlet n = s.outlet n) ∧
        ∃ m, u.load i = some m ∧ m.wantedOn = l.wantedOn ∧
          (l.peers = [] → m.state = .shed ∧ m.watch = Watch.stopped ∧ hasNotice m.notices .shed = true) ∧
          (l.peers ≠ [] → hasNotice m.notices .cordShed = true ∧
            (l.state = .on → m.state = .on ∧ m.watch = l.watch) ∧
            (l.state = .starting → complete → m.state = .on) ∧
            (l.state = .starting → ¬ complete → m.state = .starting))) ∧
      (∀ tag p top, c = .lent tag p top → u.slots = s.slots ∧
        recordedAs (.home tag) .lent (s.freshOf (s.lending tag)) (s.guard b).list (u.guard b).list ∧
        (∀ n ∈ s.lending tag, u.hasEntry n = false ∧ Outlet.openAsked (s.outlet n) (u.outlet n) ∧
          (u.outlet n).owner = (s.outlet n).owner ∧
          ((s.outlet n).commanded = .closed ∨ s.hasEntry n = true → (u.outlet n).shed = true)) ∧
        ∀ n ∈ outletNumbers, n ∉ s.lending tag → u.outlet n = s.outlet n)

/-- R175, R176: an assertion of the external shed input, and every window end while ACTIVE, sheds every candidate at or
below the class of the assertion, loads and lent owners, and no other: records, outlets with their shed markers, and the
external list's entries in the order of the victims. A deassertion takes the list's LOAD, CORD and LENT entries by the
restore setting (a drop hold: log 44). Each edge does nothing in the state it would lead to: log 3. An outlet already
marked keeps its entry, and a cord shed that withdraws the last entry of a start completes it: log 16. That at a window
end the branches are judged ascending, and the external shed after them, is the model's choice (log 10). -/
def Obligations.ExternalShedTakesAndRestores : Prop :=
  (∀ (t : Nat) (s : State), s.Settled →
    let v := s.advance t
    (s.ext.active = true → exec (.externalShedAssert t) s = .next v) ∧
    (s.ext.active = false → exec (.externalShedDeassert t) s = .next v) ∧
    (s.ext.active = false → exec (.externalShedAssert t) s = .next (State.finish (State.extShed
      (({ v with ext := { s.ext with active := true, cls := some s.settings.extClass } } : State).raiseFlag
        .branchGuard)))) ∧
    (s.ext.active = true → s.ListsOwned →
      ∃ u : State, exec (.externalShedDeassert t) s = .next u.finish ∧ u.ext.active = false ∧ u.ext.cls = s.ext.cls ∧
        u.flags.branchGuard = s.flags.branchGuard ∧ v.restored u s.settings.extRestore s.ext.list u.ext.list)) ∧
  (∀ s : State, s.takeWindow .guard =
    let w := s.branchesInUse.foldl State.guardBranch s
    if w.ext.active = true then w.extShed else w) ∧
  ∀ (cls : Nat) (s : State), s.ListsOwned → s.ext.cls = some cls →
    let u := s.extShed
    let opens := fun n => (s.outlet n).commanded = .closed ∨ s.hasEntry n = true
    let took := fun n => u.hasEntry n = false ∧
      (n ∈ outletNumbers → Outlet.openAsked (s.outlet n) (u.outlet n) ∧ (opens n → (u.outlet n).shed = true))
    let listed := fun (v : Victim) (k : ShedKind) (fresh : List Nat) => fresh ≠ [] →
      (∃ e ∈ u.ext.list, e.victim = v ∧ ∀ n ∈ fresh, n ∈ e.outlets) ∧
      ((∀ e ∈ s.ext.list, e.victim ≠ v) → { victim := v, kind := k, outlets := fresh } ∈ u.ext.list)
    let taken := fun (l : Load) => l.prio ≤ cls ∧ (l.state = .on ∨ l.state = .starting) ∧ l.pinned = false ∧
      ∃ n ∈ l.outlets, opens n
    let owes := fun tag => ∃ n k p, n ∈ outletNumbers ∧ (s.outlet n).owner = .lent tag k p ∧ p ≤ cls ∧ opens n
    (∀ b, u.guard b = s.guard b) ∧ u.ext.active = s.ext.active ∧ u.ext.cls = s.ext.cls ∧
    u.flags.branchGuard = s.flags.branchGuard ∧
    (∀ i l, s.load i = some l → taken l →
      let complete := (∀ n ∈ l.outlets, (s.outlet n).switching ≠ .closing) ∧ ∀ o, l.order = some o → o.kind ≠ .raise
      (∀ n ∈ l.outlets, took n) ∧
      listed (.slot i) (if l.peers = [] then .load else .cord) (s.freshOf l.outlets) ∧
      ∃ m, u.load i = some m ∧ m.wantedOn = l.wantedOn ∧
        (l.peers = [] → m.state = .shed ∧ m.watch = Watch.stopped ∧ hasNotice m.notices .shed = true) ∧
        (l.peers ≠ [] → hasNotice m.notices .cordShed = true ∧
          (l.state = .on → m.state = .on ∧ m.watch = l.watch) ∧
          (l.state = .starting → complete → m.state = .on) ∧
          (l.state = .starting → ¬ complete → m.state = .starting))) ∧
    (∀ i l, s.load i = some l → ¬ taken l → u.load i = some l ∧ ∀ n ∈ l.outlets, u.outlet n = s.outlet n) ∧
    (∀ tag, owes tag →
      (∀ n ∈ s.lending tag, took n ∧ (u.outlet n).owner = (s.outlet n).owner ∧
        (u.outlet n).reservation = (s.outlet n).reservation ∧ (u.outlet n).dropHold = (s.outlet n).dropHold) ∧
      listed (.home tag) .lent (s.freshOf (s.lending tag))) ∧
    (∀ n tag k p, n ∈ outletNumbers → (s.outlet n).owner = .lent tag k p → ¬ owes tag → u.outlet n = s.outlet n) ∧
    (∀ e ∈ s.ext.list, ∃ x ∈ u.ext.list, x.victim = e.victim ∧ x.kind = e.kind ∧ ∀ n ∈ e.outlets, n ∈ x.outlets) ∧
    (s.ext.list = [] → (u.ext.list.map (·.victim)).Pairwise Victim.before)

/-! ### The partner link -/

/-- R181 to R184, R188: HELLOs made and taken, the silence timer, frames sent and frames dropped. The link judges by the
side of the last HELLO made (`link.side`), and a changed side is taken up, and the presence judged again, at the next
HELLO: log 20. A HELLO_SEND before its 250 ms changes nothing but the time: log 3. R64: at the entry into UP the STRANDED
loads are placed by its rows, slots ascending. A frame already being sent when the link leaves UP is removed with the
others: log 43. -/
def Obligations.LinkPresenceMoves : Prop :=
  ∀ (t : Nat) (s : State), s.Settled →
    let v := s.advance t
    (∀ bytes, exec (.linkFrameDropped t bytes) s = .next v) ∧
    exec (.linkFrameSent t) s = .next { v with link := { s.link with tx := s.link.tx.tail } } ∧
    (s.link.nextHello ≤ v.now → s.link.side = s.side →
      exec (.helloSend t) s = .next { v with link := { s.link with
        nextHello := s.link.nextHello + 25000
        tx := s.link.tx ++ [.hello s.side s.branchCount s.rating] } }) ∧
    (v.now < s.link.nextHello → exec (.helloSend t) s = .next v) ∧
    (s.link.nextHello ≤ v.now → s.link.side ≠ s.side →
      ∃ u : State, exec (.helloSend t) s = .next u.finish ∧ u.link.side = s.side ∧
        u.link.nextHello = s.link.nextHello + 25000 ∧ u.link.announce = s.link.announce ∧
        u.link.silence = (if s.side = .solo then none else s.link.silence) ∧
        (s.link.presence ≠ .up → u.link.tx = s.link.tx ++ [.hello s.side s.branchCount s.rating]) ∧
        (s.side = .solo → u.link.presence = .down) ∧
        (s.side ≠ .solo → s.link.announce = none → u.link.presence = s.link.presence) ∧
        (∀ a, s.side ≠ .solo → s.link.announce = some a →
          let opposite := a.side ≠ .solo ∧ a.side ≠ s.side
          u.link.presence =
            if (s.link.presence = .joining ∨ s.link.presence = .up) ∧ ¬ opposite then .mismatch
            else if s.link.presence = .mismatch ∧ opposite ∧ v.now ≤ a.moment + 100000 then .joining
            else s.link.presence) ∧
        (u.link.presence ≠ s.link.presence → u.flags.peer = true) ∧
        (s.link.presence = .up → u.link.presence ≠ .up →
          u.linkEmptied ∧ .hello s.side s.branchCount s.rating ∈ u.link.tx)) ∧
    (∀ side count rating, (count = 3 ∨ count = 6) → (rating = 10 ∨ rating = 16 ∨ rating = 20 ∨ rating = 32) →
      let announce := some { side := side, count := count, rating := rating, moment := v.now }
      let opposite := side ≠ .solo ∧ side ≠ s.link.side
      (s.link.side = .solo → exec (.hello t side count rating) s =
        .next { v with link := { s.link with announce := announce } }) ∧
      (s.link.side ≠ .solo → ∃ u : State, exec (.hello t side count rating) s = .next u.finish ∧
        u.link.announce = announce ∧ u.link.silence = some (v.now + 100000) ∧
        u.link.presence = (if opposite then
          (if s.link.presence = .joining ∨ s.link.presence = .up then .up else .joining) else .mismatch) ∧
        (u.link.presence ≠ s.link.presence → u.flags.peer = true) ∧
        (s.link.presence = .up → ¬ opposite → u.linkEmptied) ∧
        (u.link.presence = .up → s.link.presence ≠ .up →
          u = slotNumbers.foldl State.unstrand (({ v with link := { s.link with
            announce := announce, silence := some (v.now + 100000), presence := .up } } : State).raiseFlag .peer) ∧
          ∀ i l, s.load i = some l →
            (l.state ≠ .stranded → u.load i = some l) ∧
            (l.state = .stranded → ∃ m, u.load i = some m ∧ m.strikes = l.strikes ∧
              if l.pinned = true ∨ l.cyclePolicy.auto = false then
                m = { l with
                  state := .on, qReason := none, powerTime := some v.now, postCycleBoot := false
                  startRestored := false
                  watch := if l.watchPolicy = none then Watch.stopped else { Watch.stopped with sub := .hung } }
              else if ∃ n ∈ l.outlets, (s.outlet n).service = .failed then
                m.state = .quarantined ∧ m.qReason = some .outletFailed ∧ m.watch = Watch.stopped ∧
                m.notices = addNotice l.notices .quarantined ∧
                (l.cyclePolicy.action = .leaveOn → m.wantedOn = l.wantedOn) ∧
                (l.cyclePolicy.action = .turnOff → m.wantedOn = false ∧
                  ∀ n ∈ l.outlets, u.hasEntry n = false ∧
                    (n ∈ outletNumbers → Outlet.openAsked (s.outlet n) (u.outlet n)))
              else
                m.state = .cycling ∧ m.watch = Watch.stopped ∧ m.notices = l.notices ∧ m.wantedOn = l.wantedOn ∧
                ((∃ k c, u.context k = some c ∧ c.slot = i ∧ c.cause = .hang ∧ c.pending = none ∧
                    (c.phase = .opening ∨ c.phase = .dwell) ∧
                    (∀ n ∈ l.outlets, u.hasEntry n = false ∧
                      (n ∈ outletNumbers → Outlet.openAsked (s.outlet n) (u.outlet n))) ∧
                    (l.peers ≠ [] → ∃ number,
                      .drop l.tag number (l.cyclePolicy.dwell + s.settings.raiseLimit + 10) ∈ u.link.tx)) ∨
                  u.freeContext = none ∧ { slot := i, cause := .hang } ∈ u.waitList))))) ∧
    (∀ d, s.link.silence = some d → d ≤ v.now →
      ∃ u : State, exec (.silenceExpiry t) s = .next u.finish ∧ u.link.silence = none ∧ u.link.presence = .down ∧
        u.link.announce = s.link.announce ∧ (s.link.presence ≠ .down → u.flags.peer = true) ∧
        (s.link.presence = .up → u.linkEmptied))

/-- R181: what a frame's bytes spell is the frame, for every frame whose fields lie in their ranges; and a request frame
made by R215's layout is a good one. -/
def Obligations.LinkFramesReadBack : Prop :=
  (∀ f : LinkFrame, f.fieldsOk = true → LinkFrame.parse f.bytes = some f) ∧
  ∀ (kind : Byte) (body : List Byte), body.length ≤ 250 →
    badRequestFrame (requestFrame kind body) = false ∧ receivedKind (requestFrame kind body) = kind

/-- R190, R191, R197: BIND lends the outlets it claims or is refused; UNBIND and RECLAIM release them, at once where they
stand open and after their opens where not (what the freeing at the end of an open sends is OwnersToldOfEnds); while the
link is not UP an order is dropped. A BIND, refused or not, leaves no answer pending for its home tag (R189). R194: a
RECLAIM that withdraws awaited entries of a pending RAISED ends it in RAISE_FAILED with the first of them in the order of
the request (log 38); it leaves any other pending answer to the ends of the opens. -/
def Obligations.LendingBegunAndEnded : Prop :=
  ∀ (t : Nat) (tag : Tag) (order : Nat) (s : State), s.Settled → tag ≠ 0 → 1 ≤ order → order ≤ 255 →
    let v := s.advance t
    let ns := s.lending tag
    let unanswered : State := { v with link := { s.link with answers := s.link.answers.filter fun a => a.tag != tag } }
    (∀ es prio, (LinkFrame.bind tag order es prio).fieldsOk = true →
      let c := Instr.bind t tag order es prio
      (s.link.presence ≠ .up → exec c s = .next v) ∧
      (s.link.presence = .up → ns ≠ [] → exec c s = .next (unanswered.transmit (.refused tag order .outletTaken))) ∧
      (s.link.presence = .up → ns = [] →
        (∀ f, s.claimFails es false = some f → exec c s = .next (unanswered.transmit (.refused tag order f.reason))) ∧
        (s.claimFails es false = none →
          exec c s = .next ((unanswered.take es (.lent tag order prio)).transmit (.bound tag order))))) ∧
    (let c := Instr.unbind t tag order;
      (s.link.presence ≠ .up → exec c s = .next v) ∧
      (s.link.presence = .up → ns = [] → exec c s = .next (v.transmit (.unbound tag order))) ∧
      (s.link.presence = .up → ns ≠ [] →
        ∃ u : State, exec c s = .next u.finish ∧
          (∀ n ∈ ns, u.hasEntry n = false ∧ (u.outlet n).dropHold = none ∧
            ((s.outlet n).settledOpen = true → (u.outlet n).owner = .free ∧ (u.outlet n).reservation = 0) ∧
            ((s.outlet n).settledOpen = false → (u.outlet n).owner = (s.outlet n).owner ∧
              (u.outlet n).releasing = true ∧ Outlet.openAsked (s.outlet n) (u.outlet n))) ∧
          ((∀ n ∈ ns, (s.outlet n).settledOpen = true) → u.link.tx = s.link.tx ++ [.unbound tag order]) ∧
          ((∃ n ∈ ns, (s.outlet n).settledOpen = false) → u.link.tx = s.link.tx ∧ ∃ a, u.answerOf tag = some a ∧
            a.kind = .unbound ∧ a.order = order ∧ a.awaited = ns.filter fun n => !(s.outlet n).settledOpen))) ∧
    (s.Free → ∀ ms : List Nat,
      let c := Instr.reclaim t (.fits ms)
      if ms = [] ∨ 8 < ms.length ∨ ¬ ms.Nodup ∨ ∃ n ∈ ms, s.inUse n = false then
        exec c s = .next (v.answered .reclaim .badRequest .nothing)
      else if ∃ n ∈ ms, (s.outlet n).isBound = true then
        exec c s = .next (v.answered .reclaim .wrongState .nothing)
      else
        ∃ u : State, exec c s = .next u.finish ∧ u.shows .reclaim .done .nothing ∧
          (∀ n ∈ ms, (s.outlet n).owner ≠ .free → (s.outlet n).releasing = false →
            u.hasEntry n = false ∧ (u.outlet n).dropHold = none ∧ (u.outlet n).shed = false ∧
            ((s.outlet n).settledOpen = true → (u.outlet n).owner = .free ∧ (u.outlet n).reservation = 0) ∧
            ((s.outlet n).settledOpen = false → (u.outlet n).owner = (s.outlet n).owner ∧
              (u.outlet n).releasing = true ∧ Outlet.openAsked (s.outlet n) (u.outlet n))) ∧
          (∀ n ∈ outletNumbers, n ∉ ms → (u.outlet n).owner = (s.outlet n).owner) ∧
          ∀ home a, s.answerOf home = some a →
            let mine := ms.filter fun n => (s.outlet n).lentTo home && !(s.outlet n).releasing
            (∀ n rest, a.kind = .raised → (mine.filter fun n => a.awaited.contains n && s.hasEntry n) = n :: rest →
              .raiseFailed home a.order n ∈ u.link.tx ∧ u.answerOf home = none) ∧
            ((∀ n ∈ mine, n ∈ a.awaited → (s.outlet n).settledOpen = false ∧ (a.kind = .raised → s.hasEntry n = false)) →
              u.answerOf home = some a))

/-- R192, R193, R195: DROP opens and holds the lent outlets, RAISE and the expiry of a hold deadline queue them, and the
answers of a DROP and a RAISE go out when their outlets have settled. A RAISE, whatever it finds, supersedes the answer
pending for its home tag (R189); a DROP that is refused changes nothing. What a RAISE finds of an outlet is the first row
of R193's table that matches. -/
def Obligations.LentOutletsDroppedAndRaised : Prop :=
  (∀ (n : Nat) (s : State), s.raiseFinding n =
    let o := s.outlet n
    if o.adopted = false then .failing
    else if o.service = .failed then .failing
    else if o.commanded = .closed ∧ o.switching = .idle then .closed
    else if o.switching = .closing then .awaited
    else if s.hasEntry n = true then .awaited
    else if s.phaseLost (s.phaseOf n) = true then .lost
    else .inserted) ∧
  ∀ (t : Nat) (tag : Tag) (order hold : Nat) (s : State), s.Settled → tag ≠ 0 → 1 ≤ order → order ≤ 255 →
    hold ≤ 65535 →
    let v := s.advance t
    let ns := s.lendingHeld tag
    let drop := Instr.drop t tag order hold
    let raise := Instr.raise t tag order
    (s.link.presence ≠ .up → exec drop s = .next v ∧ exec raise s = .next v) ∧
    (s.link.presence = .up → (ns = [] ∨ ∃ n ∈ ns, (s.outlet n).adopted = false) →
      exec drop s = .next (v.transmit (.dropRefused tag order))) ∧
    (s.link.presence = .up → ns = [] → exec raise s = .next (State.transmit
      { v with link := { s.link with answers := s.link.answers.filter fun a => a.tag != tag } }
      (.raiseFailed tag order 0))) ∧
    (s.link.presence = .up → ns ≠ [] → (∀ n ∈ ns, (s.outlet n).adopted = true) →
      ∃ u : State, exec drop s = .next u.finish ∧
        (∀ n ∈ ns, u.hasEntry n = false ∧ (u.outlet n).shed = false ∧ (u.outlet n).lineLost = false ∧
          (u.outlet n).owner = (s.outlet n).owner ∧
          (u.outlet n).dropHold =
            some { deadline := if hold = 0 then none else some (v.now + hold * 100000) } ∧
          ((u.outlet n).commanded = .opened ∨ (u.outlet n).pendingOpen = true ∨
            (s.outlet n).switching = .opening)) ∧
        ((∀ n ∈ ns, (u.outlet n).settledOpen = true) →
          u.link.tx = s.link.tx ++ [.dropped tag order] ∧ u.answerOf tag = none) ∧
        ((∃ n ∈ ns, (u.outlet n).settledOpen = false) → u.link.tx = s.link.tx ∧ ∃ a, u.answerOf tag = some a ∧
          a.kind = .dropped ∧ a.order = order ∧ a.awaited = ns.filter fun n => !(u.outlet n).settledOpen)) ∧
    (s.link.presence = .up → ns ≠ [] →
      let failing := ns.filter fun n => s.raiseFinding n = .failing ∨ s.raiseFinding n = .lost
      let awaited := ns.filter fun n => s.raiseFinding n = .awaited ∨ s.raiseFinding n = .inserted
      ∃ u : State, exec raise s = .next u.finish ∧
        (∀ n ∈ ns, (u.outlet n).dropHold = none ∧ (u.outlet n).shed = false ∧
          (∀ k p, (s.outlet n).owner = .lent tag k p → s.insertable n (.lent tag k p) →
            (s.outlet n).switching ≠ .closing → u.queued n (.lent tag k p) p .peerRaise v.now) ∧
          (s.raiseFinding n = .lost → s.inUse n = true → (s.outlet n).commanded = .opened →
            (u.outlet n).lineLost = true ∧ u.hasEntry n = false)) ∧
        (∀ n rest, failing = n :: rest → u.link.tx = s.link.tx ++ [.raiseFailed tag order n] ∧
          u.answerOf tag = none) ∧
        (failing = [] → awaited = [] → u.link.tx = s.link.tx ++ [.raised tag order] ∧ u.answerOf tag = none) ∧
        (failing = [] → awaited ≠ [] → u.link.tx = s.link.tx ∧ ∃ a, u.answerOf tag = some a ∧ a.kind = .raised ∧
          a.order = order ∧ a.awaited = awaited)) ∧
    ∃ u : State, exec (.holdDeadlineExpiry t) s = .next u.finish ∧ u.link = s.link ∧
      ∀ n ∈ outletNumbers, (u.outlet n).owner = (s.outlet n).owner ∧
        if v.holdDue n = true then (u.outlet n).dropHold = none ∧
          ∀ g k p, (s.outlet n).owner = .lent g k p → s.insertable n (.lent g k p) →
            u.queued n (.lent g k p) p .peerRaise v.now
        else u.outlet n = s.outlet n

/-- R186, R187: an answer ends the outstanding order of the record with its home tag that it matches by kind and number,
and is discarded otherwise; a deadline that has come ends its order as expired. That the row of a deadline that has not
come changes nothing but the time is the model's choice (log 3). -/
def Obligations.AnswersMatchOrders : Prop :=
  ∀ (t : Nat) (tag : Tag) (number : Nat) (e : OrderEnd) (c : Instr) (s : State), AnswerFrame t tag number e c →
    s.Settled →
    let v := s.advance t
    ((s.link.presence ≠ .up ∨ ∀ i l o, s.slotOfTag tag = some i → s.load i = some l → l.order = some o →
        ¬ (o.number = number ∧ e.ends o.kind = true)) →
      exec c s = .next v) ∧
    (∀ i l o, tag ≠ 0 → 1 ≤ number → number ≤ 255 → s.link.presence = .up → s.slotOfTag tag = some i →
      s.load i = some l → l.order = some o → o.number = number → e.ends o.kind = true →
      exec c s = .next (v.endOrder i o e).finish) ∧
    (∀ i l o, s.load i = some l → l.order = some o →
      exec (.orderDeadlineExpiry t i) s =
        if o.deadline ≤ v.now then .next (v.endOrder i o .expired).finish else .next v)

/-- R32, R36, R42, R53, R97, R104: what the end of an order does, by its sender: the record, the held answer, the notices
and the cycle context. A failed admission, and the end of a RETIRE, free the record's outlets (R10) and its tags. -/
def Obligations.OrdersEndBySender : Prop :=
  ∀ (i : Nat) (l : Load) (o : OrderRec) (e : OrderEnd) (s : State), s.load i = some l → l.order = some o →
    let u := s.endOrder i o e
    let freed := (s.TagsDistinct → ∀ g ∈ l.tags, u.resolve g = none) ∧
      (∀ d ∈ u.shedEntries, d.victim ≠ .slot i) ∧
      ∀ n ∈ l.outlets, n ∈ outletNumbers → (s.outlet n).owner = .bound i → u.hasEntry n = false ∧
        ((s.outlet n).settledOpen = true → (u.outlet n).owner = .free ∧ (u.outlet n).reservation = 0 ∧
          (u.outlet n).releasing = false ∧ (u.outlet n).shed = false ∧ (u.outlet n).lineLost = false ∧
          (u.outlet n).dropHold = none ∧ (u.outlet n).settledOpen = true)
    (o.sender = .admission → e = .bound → l.state = .admitting →
      u.load i = some { Load.inState l .unpowered with order := none } ∧
      (s.port.state = .executing .admitLoad i → u.shows .admitLoad .done .nothing)) ∧
    (o.sender = .admission → e ≠ .bound →
      u.slot i = { counter := (s.slot i).counter, load := none } ∧ freed ∧
      (∀ r, e = .refused r → s.port.state = .executing .admitLoad i → u.shows .admitLoad .peerRefused (.reason r)) ∧
      ((∀ r, e ≠ .refused r) → s.port.state = .executing .admitLoad i → u.shows .admitLoad .peerNoAnswer .nothing)) ∧
    (o.sender = .retire →
      u.slot i = { counter := (s.slot i).counter, load := none } ∧ freed ∧
      (s.port.state = .executing .retire i →
        u.shows .retire (if e = .unbound then .done else .peerNoAnswer) .nothing)) ∧
    (∀ q, o.sender = .amendment → l.amendSeq = some q → l.state = .admitting ∨ l.state = .retiring →
      let now := if e = .bound then q.carried else []
      if e = .unbound ∧ q.carried ≠ [] ∧ s.link.presence = .up then
        u.loadIn i .admitting = true ∧ u.link.tx = s.link.tx ++ [.bind l.tag s.link.counter q.carried l.prio]
      else
        (∃ m, u.load i = some m ∧ m.state = .unpowered ∧ m.peers = now ∧ m.amendSeq = none ∧ m.order = none ∧
          m.revision = if sameEntries now q.before = true then l.revision else nextRevision (s.slot i).counter) ∧
        (s.port.state = .executing .amend i → ∃ st b, u.shows .amend st b ∧
          (e = .bound → st = .done) ∧ (e = .unbound → st = if q.carried = [] then .done else .peerDown) ∧
          (∀ r, e = .refused r → st = .peerRefused ∧ b = .reason r) ∧
          (e = .expired ∨ e = .linkLost → st = .peerNoAnswer ∧ b = .nothing))) ∧
    (o.sender = .start ∨ o.sender = .stop ∨ o.sender = .quarantine ∨ o.sender = .load →
      ∃ m, u.load i = some m ∧ m.order = none ∧
        (e = .raised ∨ e = .dropped → l.state ≠ .starting → l.state ≠ .stopping → m = { l with order := none }) ∧
        (∀ n, e = .raiseFailed n → n ≠ 0 → hasNotice m.notices .outletFault = true) ∧
        (e = .dropRefused ∨ e = .raiseFailed 0 ∨ e = .expired ∨ e = .linkLost →
          hasNotice m.notices .peerNoAnswer = true) ∧
        (l.state = .stopping → (∀ n ∈ l.outlets, (s.outlet n).settledOpen = true) → m.state = .unpowered) ∧
        (l.state = .starting → (∀ n ∈ l.outlets, s.hasEntry n = false ∧ (s.outlet n).switching ≠ .closing) →
          (l.peers ≠ [] → m.state = .on) ∧ m.state ≠ .starting)) ∧
    (∀ k x, o.sender = .cycle → s.contextOf i = some k → s.context k = some x → l.state = .cycling →
      let fails := e.ends o.kind = true ∧ e ≠ .dropped ∧ e ≠ .raised
      let reason := fun (p : Option PendingOutcome) => match p with
        | some (.failed r) => r
        | _ => match e with
          | .dropRefused => .peerRefused
          | .raiseFailed n => if n = 0 then .peerRefused else .outletFault
          | .expired => .peerNoAnswer
          | _ => .peerLost
      let ended := fun (p : Option PendingOutcome) =>
        u.context k = none ∧ ∃ m, u.load i = some m ∧ m.state = .on ∧ m.powerTime = some s.now ∧
          m.lastOutcome = some
            { outcome := match p with
                | none => .done
                | some .cancelled => .cancelled
                | some (.failed r) => .failed r
              cause := x.cause } ∧
          ((∃ r, p = some (.failed r)) → hasNotice m.notices .cycleFailed = true) ∧
          ((∀ r, p ≠ some (.failed r)) → hasNotice m.notices .cycleDone = true)
      (o.kind = .drop → e = .dropped → x.phase = .opening →
        ∃ y, u.context k = some y ∧ y.peer = .answered ∧ y.pending = x.pending ∧
          ((∃ n ∈ l.outlets, n ∉ x.progress) → y.phase = .opening ∧ y.deadline = none) ∧
          ((∀ n ∈ l.outlets, n ∈ x.progress) → y.phase = .dwell ∧
            y.deadline = some (s.now + l.cyclePolicy.dwell * 100000))) ∧
      (o.kind = .raise → e = .raised → x.phase = .closing → (∃ n ∈ l.outlets, n ∉ x.progress) →
        ∃ y, u.context k = some y ∧ y = { x with peer := .answered, deadline := none }) ∧
      (o.kind = .raise → e = .raised → x.phase = .closing → (∀ n ∈ l.outlets, n ∈ x.progress) → s.waitList = [] →
        ended x.pending) ∧
      (o.kind = .drop → fails → x.phase = .opening →
        (∃ m, u.load i = some m ∧ (e = .expired → hasNotice m.notices .peerNoAnswer = true)) ∧
        (∀ n ∈ l.outlets, s.insertable n (.bound i) →
          (∀ n' ∈ l.outlets, (s.outlet n').service = .inService → s.phaseLost (s.phaseOf n') = false) →
          u.queued n (.bound i) l.prio .cycle s.now ∧ u.link.tx = s.link.tx ∧
          ∃ y, u.context k = some y ∧ y.phase = .closing ∧ y.peer = .none ∧ y.deadline = none ∧
            y.pending = some (.failed (reason x.pending))) ∧
        ((∀ n ∈ l.outlets, (s.outlet n).service = .failed) → s.waitList = [] →
          ended (some (.failed (reason x.pending))))) ∧
      (o.kind = .raise → fails → x.phase = .closing →
        (∃ m, u.load i = some m ∧ (e = .expired → hasNotice m.notices .peerNoAnswer = true) ∧
          (∀ n, e = .raiseFailed n → n ≠ 0 → hasNotice m.notices .outletFault = true)) ∧
        ((∃ n ∈ l.outlets, n ∉ x.progress) →
          ∃ y, u.context k = some y ∧
            y = { x with peer := .none, deadline := none, pending := some (.failed (reason x.pending)) }) ∧
        ((∀ n ∈ l.outlets, n ∈ x.progress) → s.waitList = [] → ended (some (.failed (reason x.pending))))))

end
end

