-- ==== Sys2Proof/Laws/Exec.lean ====
section
/-! SUPPORT. The meaning of each command as its body at the moment it is taken, with the end of the step
(`State.done`). One lemma a command; proofs about `exec` rewrite by these. -/

namespace Sys2Proof.Machine.Laws

variable (s : State)

theorem exec_coldReset (t : Nat) (size : Nat) (side : Side) (lvl : Bool) :
    exec (.coldReset t size side lvl) s = State.done ((s.advance t).coldReset { size := size, side := side } lvl) := rfl
theorem exec_portReset (t : Nat) :
    exec (.portReset t) s = State.done ({ s.advance t with port := { state := .idle, prstLow := true, miso := .nothing } }) := rfl
theorem exec_readTransaction (t : Nat) (c : Bool) :
    exec (.readTransaction t c) s = State.done ((s.advance t).readPort c) := rfl
theorem exec_ignoredTransaction (t : Nat) (b : Byte) :
    exec (.ignoredTransaction t b) s = State.done ((s.advance t).ignoreTransaction b) := rfl
theorem exec_badFrame (t : Nat) (l : List Byte) :
    exec (.badFrame t l) s = State.done ((s.advance t).frameFailed l) := rfl
theorem exec_overrun (t : Nat) :
    exec (.overrun t) s = State.done ((s.advance t).written id) := rfl
theorem exec_unknownRequestKind (t : Nat) (k : Byte) :
    exec (.unknownRequestKind t k) s = State.done ((s.advance t).unknownKind k) := rfl
theorem exec_admit (t : Nat) (body : Body AdmitReq) :
    exec (.admitLoad t body) s = State.done ((s.advance t).request .admitLoad body State.admitLoad) := rfl
theorem exec_amend (t : Nat) (body : Body AmendReq) :
    exec (.amend t body) s = State.done ((s.advance t).request .amend body State.amend) := rfl
theorem exec_retire (t : Nat) (body : Body RetireReq) :
    exec (.retire t body) s = State.done ((s.advance t).request .retire body State.retire) := rfl
theorem exec_lookup (t : Nat) (body : Body Tag) :
    exec (.lookup t body) s = State.done ((s.advance t).request .lookup body State.lookup) := rfl
theorem exec_list (t : Nat) (body : Body Nat) :
    exec (.list t body) s = State.done ((s.advance t).request .list body State.list) := rfl
theorem exec_pin (t : Nat) (body : Body Tag) :
    exec (.pin t body) s = State.done ((s.advance t).request .pin body State.pin) := rfl
theorem exec_aliasAdd (t : Nat) (body : Body TagPair) :
    exec (.aliasAdd t body) s = State.done ((s.advance t).request .aliases body State.addAlias) := rfl
theorem exec_aliasRemove (t : Nat) (body : Body TagPair) :
    exec (.aliasRemove t body) s = State.done ((s.advance t).request .aliases body State.removeAlias) := rfl
theorem exec_powerOn (t : Nat) (body : Body Tag) :
    exec (.powerOn t body) s = State.done ((s.advance t).request .powerOn body State.powerOn) := rfl
theorem exec_powerOff (t : Nat) (body : Body Tag) :
    exec (.powerOff t body) s = State.done ((s.advance t).request .powerOff body State.powerOff) := rfl
theorem exec_cycle (t : Nat) (body : Body Tag) :
    exec (.cycle t body) s = State.done ((s.advance t).request .cycle body State.cycle) := rfl
theorem exec_cancel (t : Nat) (body : Body Tag) :
    exec (.cancel t body) s = State.done ((s.advance t).request .cancel body State.cancel) := rfl
theorem exec_release (t : Nat) (body : Body Tag) :
    exec (.release t body) s = State.done ((s.advance t).request .release body State.release) := rfl
theorem exec_beat (t : Nat) (body : Body (List Tag)) :
    exec (.beat t body) s = State.done ((s.advance t).request .beat body State.takeBeats) := rfl
theorem exec_outlets (t : Nat) (body : Body OutletsReq) :
    exec (.outlets t body) s = State.done ((s.advance t).request .outlets body State.readOutlets) := rfl
theorem exec_revive (t : Nat) (body : Body Nat) :
    exec (.revive t body) s = State.done ((s.advance t).request .revive body State.revive) := rfl
theorem exec_faults (t : Nat) (body : Body Bool) :
    exec (.faults t body) s = State.done ((s.advance t).request .faults body State.readFaults) := rfl
theorem exec_meter (t : Nat) (body : Body MeterReq) :
    exec (.meter t body) s = State.done ((s.advance t).request .meter body State.readMeter) := rfl
theorem exec_reclaim (t : Nat) (body : Body (List Nat)) :
    exec (.reclaim t body) s = State.done ((s.advance t).request .reclaim body State.reclaim) := rfl
theorem exec_configure (t : Nat) (body : Body (List SettingChange)) :
    exec (.configure t body) s = State.done ((s.advance t).request .configure body State.configure) := rfl
theorem exec_settings (t : Nat) (body : Body Unit) :
    exec (.settings t body) s = State.done ((s.advance t).request .settings body State.readSettings) := rfl
theorem exec_save (t : Nat) (body : Body Unit) :
    exec (.save t body) s = State.done ((s.advance t).request .save body State.save) := rfl
theorem exec_saveEnd (t : Nat) (m : Bool) :
    exec (.saveEnd t m) s = State.done ((s.advance t).endSave m) := rfl
theorem exec_attention (t : Nat) (body : Body Unit) :
    exec (.attention t body) s = State.done ((s.advance t).request .attention body State.readAttention) := rfl
theorem exec_notices (t : Nat) (body : Body Unit) :
    exec (.notices t body) s = State.done ((s.advance t).request .notices body State.readNotices) := rfl
theorem exec_bootGraceExpiry (t : Nat) (i : Nat) :
    exec (.bootGraceExpiry t i) s = State.done ((s.advance t).bootExpiry i) := rfl
theorem exec_beatDeadlineExpiry (t : Nat) (i : Nat) :
    exec (.beatDeadlineExpiry t i) s = State.done ((s.advance t).beatExpiry i) := rfl
theorem exec_confirmExpiry (t : Nat) (i : Nat) :
    exec (.confirmExpiry t i) s = State.done ((s.advance t).confirmExpiry i) := rfl
theorem exec_dripExpiry (t : Nat) :
    exec (.dripExpiry t) s = State.done (if (s.advance t).dripDue then (s.advance t).drip else s.advance t) := rfl
theorem exec_dwellExpiry (t : Nat) (i : Nat) :
    exec (.dwellExpiry t i) s = State.done (if (s.advance t).dwellDue i then (s.advance t).closingStart i else s.advance t) := rfl
theorem exec_orderDeadlineExpiry (t : Nat) (i : Nat) :
    exec (.orderDeadlineExpiry t i) s = State.done ((s.advance t).expireOrder i) := rfl
theorem exec_helloSend (t : Nat) :
    exec (.helloSend t) s = State.done ((s.advance t).helloSend) := rfl
theorem exec_hello (t : Nat) (d : Side) (c : Nat) (r : Nat) :
    exec (.hello t d c r) s = State.done (if (LinkFrame.hello d c r).fieldsOk then (s.advance t).takeHello d c r else s.advance t) := rfl
theorem exec_silenceExpiry (t : Nat) :
    exec (.silenceExpiry t) s = State.done ((s.advance t).silenceExpiry) := rfl
theorem exec_linkFrameDropped (t : Nat) (l : List Byte) :
    exec (.linkFrameDropped t l) s = State.done (s.advance t) := rfl
theorem exec_bind (t : Nat) (g : Tag) (o : Nat) (es : List OutletRes) (p : Nat) :
    exec (.bind t g o es p) s = State.done ((s.advance t).taken (.bind g o es p) fun s => s.takeBind g o es p) := rfl
theorem exec_unbind (t : Nat) (g : Tag) (o : Nat) :
    exec (.unbind t g o) s = State.done ((s.advance t).taken (.unbind g o) fun s => s.takeUnbind g o) := rfl
theorem exec_drop (t : Nat) (g : Tag) (o : Nat) (h : Nat) :
    exec (.drop t g o h) s = State.done ((s.advance t).taken (.drop g o h) fun s => s.takeDrop g o h) := rfl
theorem exec_raise (t : Nat) (g : Tag) (o : Nat) :
    exec (.raise t g o) s = State.done ((s.advance t).taken (.raise g o) fun s => s.takeRaise g o) := rfl
theorem exec_bound (t : Nat) (g : Tag) (o : Nat) :
    exec (.bound t g o) s = State.done ((s.advance t).taken (.bound g o) fun s => s.takeAnswer g o .bound) := rfl
theorem exec_refused (t : Nat) (g : Tag) (o : Nat) (r : RefuseReason) :
    exec (.refused t g o r) s = State.done ((s.advance t).taken (.refused g o r) fun s => s.takeAnswer g o (.refused r)) := rfl
theorem exec_unbound (t : Nat) (g : Tag) (o : Nat) :
    exec (.unbound t g o) s = State.done ((s.advance t).taken (.unbound g o) fun s => s.takeAnswer g o .unbound) := rfl
theorem exec_dropped (t : Nat) (g : Tag) (o : Nat) :
    exec (.dropped t g o) s = State.done ((s.advance t).taken (.dropped g o) fun s => s.takeAnswer g o .dropped) := rfl
theorem exec_dropRefused (t : Nat) (g : Tag) (o : Nat) :
    exec (.dropRefused t g o) s = State.done ((s.advance t).taken (.dropRefused g o) fun s => s.takeAnswer g o .dropRefused) := rfl
theorem exec_raised (t : Nat) (g : Tag) (o : Nat) :
    exec (.raised t g o) s = State.done ((s.advance t).taken (.raised g o) fun s => s.takeAnswer g o .raised) := rfl
theorem exec_raiseFailed (t : Nat) (g : Tag) (o : Nat) (n : Nat) :
    exec (.raiseFailed t g o n) s = State.done ((s.advance t).taken (.raiseFailed g o n) fun s => s.takeAnswer g o (.raiseFailed n)) := rfl
theorem exec_holdDeadlineExpiry (t : Nat) :
    exec (.holdDeadlineExpiry t) s = State.done ((s.advance t).holdExpiry) := rfl
theorem exec_closeDrive (t : Nat) (n : Nat) :
    exec (.closeDrive t n) s = State.done ((s.advance t).closeDrive n) := rfl
theorem exec_closeConfirmed (t : Nat) (n : Nat) (v : Nat) :
    exec (.closeConfirmed t n v) s = State.done ((s.advance t).closeSensed n v) := rfl
theorem exec_closeConfirmWindowEnd (t : Nat) (n : Nat) :
    exec (.closeConfirmWindowEnd t n) s = State.done ((s.advance t).closeWindowEnd n) := rfl
theorem exec_openDrive (t : Nat) (n : Nat) :
    exec (.openDrive t n) s = State.done ((s.advance t).openDrive n) := rfl
theorem exec_openConfirmed (t : Nat) (n : Nat) (v : Nat) (c : Nat) :
    exec (.openConfirmed t n v c) s = State.done ((s.advance t).openSensed n v c) := rfl
theorem exec_openConfirmWindowEnd (t : Nat) (n : Nat) :
    exec (.openConfirmWindowEnd t n) s = State.done ((s.advance t).openWindowEnd n) := rfl
theorem exec_sensedPositionChange (t : Nat) (n : Nat) (v : Nat) :
    exec (.sensedPositionChange t n v) s = State.done ((s.advance t).sense n v) := rfl
theorem exec_patrolTick (t : Nat) :
    exec (.patrolTick t) s = State.done ((s.advance t).patrolAdvance) := rfl
theorem exec_windowEnd (t : Nat) (r : WindowReading) :
    exec (.windowEnd t r) s = State.done ((s.advance t).windowEnd r) := rfl
theorem exec_spacingExpiry (t : Nat) (b : Nat) :
    exec (.spacingExpiry t b) s = State.done ((s.advance t).spacingExpiry b) := rfl
theorem exec_externalShedAssert (t : Nat) :
    exec (.externalShedAssert t) s = State.done ((s.advance t).extAssert) := rfl
theorem exec_externalShedDeassert (t : Nat) :
    exec (.externalShedDeassert t) s = State.done ((s.advance t).extDeassert) := rfl
theorem exec_phaseCrossing (t : Nat) (p : Phase) (r : Nat) (k : Nat) :
    exec (.phaseCrossing t p r k) s = State.done ((s.advance t).crossing p r k) := rfl
theorem exec_halfCycleTimeout (t : Nat) (p : Phase) :
    exec (.halfCycleTimeout t p) s = State.done ((s.advance t).halfTimeout p) := rfl
theorem exec_missedCrossingCheck (t : Nat) (p : Phase) :
    exec (.missedCrossingCheck t p) s = State.done ((s.advance t).missedCheck p) := rfl
theorem exec_goodRunComplete (t : Nat) (p : Phase) :
    exec (.goodRunComplete t p) s = State.done ((s.advance t).goodRunComplete p) := rfl
theorem exec_firstJudgementLimit (t : Nat) (p : Phase) :
    exec (.firstJudgementLimit t p) s = State.done ((s.advance t).firstLimit p) := rfl
theorem exec_portResetRelease (t : Nat) :
    exec (.portResetRelease t) s = State.done ({ s.advance t with port := { (s.advance t).port with prstLow := false } }) := rfl
theorem exec_linkFrameSent (t : Nat) :
    exec (.linkFrameSent t) s = State.done ({ s.advance t with link := { (s.advance t).link with tx := (s.advance t).link.tx.drop 1 } }) := rfl

end Sys2Proof.Machine.Laws
end

