-- ==== Sys2Proof/Laws/State.lean ====
section
/-! SUPPORT. One lemma for each field under each named update of the state: what the update leaves as it was.
All hold by unfolding one record update. -/

namespace Sys2Proof.Machine

/-! ### advance -/

@[simp] theorem advance_restoredAt (s : State) (t : Nat) :
    (s.advance t).restoredAt = s.restoredAt := rfl
@[simp] theorem advance_strap (s : State) (t : Nat) :
    (s.advance t).strap = s.strap := rfl
@[simp] theorem advance_settings (s : State) (t : Nat) :
    (s.advance t).settings = s.settings := rfl
@[simp] theorem advance_slots (s : State) (t : Nat) :
    (s.advance t).slots = s.slots := rfl
@[simp] theorem advance_outlets (s : State) (t : Nat) :
    (s.advance t).outlets = s.outlets := rfl
@[simp] theorem advance_contexts (s : State) (t : Nat) :
    (s.advance t).contexts = s.contexts := rfl
@[simp] theorem advance_waitList (s : State) (t : Nat) :
    (s.advance t).waitList = s.waitList := rfl
@[simp] theorem advance_queue (s : State) (t : Nat) :
    (s.advance t).queue = s.queue := rfl
@[simp] theorem advance_gates (s : State) (t : Nat) :
    (s.advance t).gates = s.gates := rfl
@[simp] theorem advance_guards (s : State) (t : Nat) :
    (s.advance t).guards = s.guards := rfl
@[simp] theorem advance_ext (s : State) (t : Nat) :
    (s.advance t).ext = s.ext := rfl
@[simp] theorem advance_dripStart (s : State) (t : Nat) :
    (s.advance t).dripStart = s.dripStart := rfl
@[simp] theorem advance_lines (s : State) (t : Nat) :
    (s.advance t).lines = s.lines := rfl
@[simp] theorem advance_meter (s : State) (t : Nat) :
    (s.advance t).meter = s.meter := rfl
@[simp] theorem advance_patrol (s : State) (t : Nat) :
    (s.advance t).patrol = s.patrol := rfl
@[simp] theorem advance_capture (s : State) (t : Nat) :
    (s.advance t).capture = s.capture := rfl
@[simp] theorem advance_more (s : State) (t : Nat) :
    (s.advance t).more = s.more := rfl
@[simp] theorem advance_link (s : State) (t : Nat) :
    (s.advance t).link = s.link := rfl
@[simp] theorem advance_port (s : State) (t : Nat) :
    (s.advance t).port = s.port := rfl
@[simp] theorem advance_flags (s : State) (t : Nat) :
    (s.advance t).flags = s.flags := rfl
@[simp] theorem advance_attnLow (s : State) (t : Nat) :
    (s.advance t).attnLow = s.attnLow := rfl
@[simp] theorem advance_store (s : State) (t : Nat) :
    (s.advance t).store = s.store := rfl
@[simp] theorem advance_work (s : State) (t : Nat) :
    (s.advance t).work = s.work := rfl
@[simp] theorem advance_pending (s : State) (t : Nat) :
    (s.advance t).pending = s.pending := rfl

/-! ### setOutlet -/

@[simp] theorem setOutlet_now (s : State) (n : Nat) (o : Outlet) :
    (s.setOutlet n o).now = s.now := rfl
@[simp] theorem setOutlet_restoredAt (s : State) (n : Nat) (o : Outlet) :
    (s.setOutlet n o).restoredAt = s.restoredAt := rfl
@[simp] theorem setOutlet_strap (s : State) (n : Nat) (o : Outlet) :
    (s.setOutlet n o).strap = s.strap := rfl
@[simp] theorem setOutlet_settings (s : State) (n : Nat) (o : Outlet) :
    (s.setOutlet n o).settings = s.settings := rfl
@[simp] theorem setOutlet_slots (s : State) (n : Nat) (o : Outlet) :
    (s.setOutlet n o).slots = s.slots := rfl
@[simp] theorem setOutlet_contexts (s : State) (n : Nat) (o : Outlet) :
    (s.setOutlet n o).contexts = s.contexts := rfl
@[simp] theorem setOutlet_waitList (s : State) (n : Nat) (o : Outlet) :
    (s.setOutlet n o).waitList = s.waitList := rfl
@[simp] theorem setOutlet_queue (s : State) (n : Nat) (o : Outlet) :
    (s.setOutlet n o).queue = s.queue := rfl
@[simp] theorem setOutlet_gates (s : State) (n : Nat) (o : Outlet) :
    (s.setOutlet n o).gates = s.gates := rfl
@[simp] theorem setOutlet_guards (s : State) (n : Nat) (o : Outlet) :
    (s.setOutlet n o).guards = s.guards := rfl
@[simp] theorem setOutlet_ext (s : State) (n : Nat) (o : Outlet) :
    (s.setOutlet n o).ext = s.ext := rfl
@[simp] theorem setOutlet_dripStart (s : State) (n : Nat) (o : Outlet) :
    (s.setOutlet n o).dripStart = s.dripStart := rfl
@[simp] theorem setOutlet_lines (s : State) (n : Nat) (o : Outlet) :
    (s.setOutlet n o).lines = s.lines := rfl
@[simp] theorem setOutlet_meter (s : State) (n : Nat) (o : Outlet) :
    (s.setOutlet n o).meter = s.meter := rfl
@[simp] theorem setOutlet_patrol (s : State) (n : Nat) (o : Outlet) :
    (s.setOutlet n o).patrol = s.patrol := rfl
@[simp] theorem setOutlet_capture (s : State) (n : Nat) (o : Outlet) :
    (s.setOutlet n o).capture = s.capture := rfl
@[simp] theorem setOutlet_more (s : State) (n : Nat) (o : Outlet) :
    (s.setOutlet n o).more = s.more := rfl
@[simp] theorem setOutlet_link (s : State) (n : Nat) (o : Outlet) :
    (s.setOutlet n o).link = s.link := rfl
@[simp] theorem setOutlet_port (s : State) (n : Nat) (o : Outlet) :
    (s.setOutlet n o).port = s.port := rfl
@[simp] theorem setOutlet_flags (s : State) (n : Nat) (o : Outlet) :
    (s.setOutlet n o).flags = s.flags := rfl
@[simp] theorem setOutlet_attnLow (s : State) (n : Nat) (o : Outlet) :
    (s.setOutlet n o).attnLow = s.attnLow := rfl
@[simp] theorem setOutlet_store (s : State) (n : Nat) (o : Outlet) :
    (s.setOutlet n o).store = s.store := rfl
@[simp] theorem setOutlet_work (s : State) (n : Nat) (o : Outlet) :
    (s.setOutlet n o).work = s.work := rfl
@[simp] theorem setOutlet_pending (s : State) (n : Nat) (o : Outlet) :
    (s.setOutlet n o).pending = s.pending := rfl

/-! ### setSlot -/

@[simp] theorem setSlot_now (s : State) (i : Nat) (v : Slot) :
    (s.setSlot i v).now = s.now := rfl
@[simp] theorem setSlot_restoredAt (s : State) (i : Nat) (v : Slot) :
    (s.setSlot i v).restoredAt = s.restoredAt := rfl
@[simp] theorem setSlot_strap (s : State) (i : Nat) (v : Slot) :
    (s.setSlot i v).strap = s.strap := rfl
@[simp] theorem setSlot_settings (s : State) (i : Nat) (v : Slot) :
    (s.setSlot i v).settings = s.settings := rfl
@[simp] theorem setSlot_outlets (s : State) (i : Nat) (v : Slot) :
    (s.setSlot i v).outlets = s.outlets := rfl
@[simp] theorem setSlot_contexts (s : State) (i : Nat) (v : Slot) :
    (s.setSlot i v).contexts = s.contexts := rfl
@[simp] theorem setSlot_waitList (s : State) (i : Nat) (v : Slot) :
    (s.setSlot i v).waitList = s.waitList := rfl
@[simp] theorem setSlot_queue (s : State) (i : Nat) (v : Slot) :
    (s.setSlot i v).queue = s.queue := rfl
@[simp] theorem setSlot_gates (s : State) (i : Nat) (v : Slot) :
    (s.setSlot i v).gates = s.gates := rfl
@[simp] theorem setSlot_guards (s : State) (i : Nat) (v : Slot) :
    (s.setSlot i v).guards = s.guards := rfl
@[simp] theorem setSlot_ext (s : State) (i : Nat) (v : Slot) :
    (s.setSlot i v).ext = s.ext := rfl
@[simp] theorem setSlot_dripStart (s : State) (i : Nat) (v : Slot) :
    (s.setSlot i v).dripStart = s.dripStart := rfl
@[simp] theorem setSlot_lines (s : State) (i : Nat) (v : Slot) :
    (s.setSlot i v).lines = s.lines := rfl
@[simp] theorem setSlot_meter (s : State) (i : Nat) (v : Slot) :
    (s.setSlot i v).meter = s.meter := rfl
@[simp] theorem setSlot_patrol (s : State) (i : Nat) (v : Slot) :
    (s.setSlot i v).patrol = s.patrol := rfl
@[simp] theorem setSlot_capture (s : State) (i : Nat) (v : Slot) :
    (s.setSlot i v).capture = s.capture := rfl
@[simp] theorem setSlot_more (s : State) (i : Nat) (v : Slot) :
    (s.setSlot i v).more = s.more := rfl
@[simp] theorem setSlot_link (s : State) (i : Nat) (v : Slot) :
    (s.setSlot i v).link = s.link := rfl
@[simp] theorem setSlot_port (s : State) (i : Nat) (v : Slot) :
    (s.setSlot i v).port = s.port := rfl
@[simp] theorem setSlot_flags (s : State) (i : Nat) (v : Slot) :
    (s.setSlot i v).flags = s.flags := rfl
@[simp] theorem setSlot_attnLow (s : State) (i : Nat) (v : Slot) :
    (s.setSlot i v).attnLow = s.attnLow := rfl
@[simp] theorem setSlot_store (s : State) (i : Nat) (v : Slot) :
    (s.setSlot i v).store = s.store := rfl
@[simp] theorem setSlot_work (s : State) (i : Nat) (v : Slot) :
    (s.setSlot i v).work = s.work := rfl
@[simp] theorem setSlot_pending (s : State) (i : Nat) (v : Slot) :
    (s.setSlot i v).pending = s.pending := rfl

/-! ### setContext -/

@[simp] theorem setContext_now (s : State) (k : Nat) (c : Option Context) :
    (s.setContext k c).now = s.now := rfl
@[simp] theorem setContext_restoredAt (s : State) (k : Nat) (c : Option Context) :
    (s.setContext k c).restoredAt = s.restoredAt := rfl
@[simp] theorem setContext_strap (s : State) (k : Nat) (c : Option Context) :
    (s.setContext k c).strap = s.strap := rfl
@[simp] theorem setContext_settings (s : State) (k : Nat) (c : Option Context) :
    (s.setContext k c).settings = s.settings := rfl
@[simp] theorem setContext_slots (s : State) (k : Nat) (c : Option Context) :
    (s.setContext k c).slots = s.slots := rfl
@[simp] theorem setContext_outlets (s : State) (k : Nat) (c : Option Context) :
    (s.setContext k c).outlets = s.outlets := rfl
@[simp] theorem setContext_waitList (s : State) (k : Nat) (c : Option Context) :
    (s.setContext k c).waitList = s.waitList := rfl
@[simp] theorem setContext_queue (s : State) (k : Nat) (c : Option Context) :
    (s.setContext k c).queue = s.queue := rfl
@[simp] theorem setContext_gates (s : State) (k : Nat) (c : Option Context) :
    (s.setContext k c).gates = s.gates := rfl
@[simp] theorem setContext_guards (s : State) (k : Nat) (c : Option Context) :
    (s.setContext k c).guards = s.guards := rfl
@[simp] theorem setContext_ext (s : State) (k : Nat) (c : Option Context) :
    (s.setContext k c).ext = s.ext := rfl
@[simp] theorem setContext_dripStart (s : State) (k : Nat) (c : Option Context) :
    (s.setContext k c).dripStart = s.dripStart := rfl
@[simp] theorem setContext_lines (s : State) (k : Nat) (c : Option Context) :
    (s.setContext k c).lines = s.lines := rfl
@[simp] theorem setContext_meter (s : State) (k : Nat) (c : Option Context) :
    (s.setContext k c).meter = s.meter := rfl
@[simp] theorem setContext_patrol (s : State) (k : Nat) (c : Option Context) :
    (s.setContext k c).patrol = s.patrol := rfl
@[simp] theorem setContext_capture (s : State) (k : Nat) (c : Option Context) :
    (s.setContext k c).capture = s.capture := rfl
@[simp] theorem setContext_more (s : State) (k : Nat) (c : Option Context) :
    (s.setContext k c).more = s.more := rfl
@[simp] theorem setContext_link (s : State) (k : Nat) (c : Option Context) :
    (s.setContext k c).link = s.link := rfl
@[simp] theorem setContext_port (s : State) (k : Nat) (c : Option Context) :
    (s.setContext k c).port = s.port := rfl
@[simp] theorem setContext_flags (s : State) (k : Nat) (c : Option Context) :
    (s.setContext k c).flags = s.flags := rfl
@[simp] theorem setContext_attnLow (s : State) (k : Nat) (c : Option Context) :
    (s.setContext k c).attnLow = s.attnLow := rfl
@[simp] theorem setContext_store (s : State) (k : Nat) (c : Option Context) :
    (s.setContext k c).store = s.store := rfl
@[simp] theorem setContext_work (s : State) (k : Nat) (c : Option Context) :
    (s.setContext k c).work = s.work := rfl
@[simp] theorem setContext_pending (s : State) (k : Nat) (c : Option Context) :
    (s.setContext k c).pending = s.pending := rfl

/-! ### modGate -/

@[simp] theorem modGate_now (s : State) (b : Nat) (f : Gate → Gate) :
    (s.modGate b f).now = s.now := rfl
@[simp] theorem modGate_restoredAt (s : State) (b : Nat) (f : Gate → Gate) :
    (s.modGate b f).restoredAt = s.restoredAt := rfl
@[simp] theorem modGate_strap (s : State) (b : Nat) (f : Gate → Gate) :
    (s.modGate b f).strap = s.strap := rfl
@[simp] theorem modGate_settings (s : State) (b : Nat) (f : Gate → Gate) :
    (s.modGate b f).settings = s.settings := rfl
@[simp] theorem modGate_slots (s : State) (b : Nat) (f : Gate → Gate) :
    (s.modGate b f).slots = s.slots := rfl
@[simp] theorem modGate_outlets (s : State) (b : Nat) (f : Gate → Gate) :
    (s.modGate b f).outlets = s.outlets := rfl
@[simp] theorem modGate_contexts (s : State) (b : Nat) (f : Gate → Gate) :
    (s.modGate b f).contexts = s.contexts := rfl
@[simp] theorem modGate_waitList (s : State) (b : Nat) (f : Gate → Gate) :
    (s.modGate b f).waitList = s.waitList := rfl
@[simp] theorem modGate_queue (s : State) (b : Nat) (f : Gate → Gate) :
    (s.modGate b f).queue = s.queue := rfl
@[simp] theorem modGate_guards (s : State) (b : Nat) (f : Gate → Gate) :
    (s.modGate b f).guards = s.guards := rfl
@[simp] theorem modGate_ext (s : State) (b : Nat) (f : Gate → Gate) :
    (s.modGate b f).ext = s.ext := rfl
@[simp] theorem modGate_dripStart (s : State) (b : Nat) (f : Gate → Gate) :
    (s.modGate b f).dripStart = s.dripStart := rfl
@[simp] theorem modGate_lines (s : State) (b : Nat) (f : Gate → Gate) :
    (s.modGate b f).lines = s.lines := rfl
@[simp] theorem modGate_meter (s : State) (b : Nat) (f : Gate → Gate) :
    (s.modGate b f).meter = s.meter := rfl
@[simp] theorem modGate_patrol (s : State) (b : Nat) (f : Gate → Gate) :
    (s.modGate b f).patrol = s.patrol := rfl
@[simp] theorem modGate_capture (s : State) (b : Nat) (f : Gate → Gate) :
    (s.modGate b f).capture = s.capture := rfl
@[simp] theorem modGate_more (s : State) (b : Nat) (f : Gate → Gate) :
    (s.modGate b f).more = s.more := rfl
@[simp] theorem modGate_link (s : State) (b : Nat) (f : Gate → Gate) :
    (s.modGate b f).link = s.link := rfl
@[simp] theorem modGate_port (s : State) (b : Nat) (f : Gate → Gate) :
    (s.modGate b f).port = s.port := rfl
@[simp] theorem modGate_flags (s : State) (b : Nat) (f : Gate → Gate) :
    (s.modGate b f).flags = s.flags := rfl
@[simp] theorem modGate_attnLow (s : State) (b : Nat) (f : Gate → Gate) :
    (s.modGate b f).attnLow = s.attnLow := rfl
@[simp] theorem modGate_store (s : State) (b : Nat) (f : Gate → Gate) :
    (s.modGate b f).store = s.store := rfl
@[simp] theorem modGate_work (s : State) (b : Nat) (f : Gate → Gate) :
    (s.modGate b f).work = s.work := rfl
@[simp] theorem modGate_pending (s : State) (b : Nat) (f : Gate → Gate) :
    (s.modGate b f).pending = s.pending := rfl

/-! ### modGuard -/

@[simp] theorem modGuard_now (s : State) (b : Nat) (f : Guard → Guard) :
    (s.modGuard b f).now = s.now := rfl
@[simp] theorem modGuard_restoredAt (s : State) (b : Nat) (f : Guard → Guard) :
    (s.modGuard b f).restoredAt = s.restoredAt := rfl
@[simp] theorem modGuard_strap (s : State) (b : Nat) (f : Guard → Guard) :
    (s.modGuard b f).strap = s.strap := rfl
@[simp] theorem modGuard_settings (s : State) (b : Nat) (f : Guard → Guard) :
    (s.modGuard b f).settings = s.settings := rfl
@[simp] theorem modGuard_slots (s : State) (b : Nat) (f : Guard → Guard) :
    (s.modGuard b f).slots = s.slots := rfl
@[simp] theorem modGuard_outlets (s : State) (b : Nat) (f : Guard → Guard) :
    (s.modGuard b f).outlets = s.outlets := rfl
@[simp] theorem modGuard_contexts (s : State) (b : Nat) (f : Guard → Guard) :
    (s.modGuard b f).contexts = s.contexts := rfl
@[simp] theorem modGuard_waitList (s : State) (b : Nat) (f : Guard → Guard) :
    (s.modGuard b f).waitList = s.waitList := rfl
@[simp] theorem modGuard_queue (s : State) (b : Nat) (f : Guard → Guard) :
    (s.modGuard b f).queue = s.queue := rfl
@[simp] theorem modGuard_gates (s : State) (b : Nat) (f : Guard → Guard) :
    (s.modGuard b f).gates = s.gates := rfl
@[simp] theorem modGuard_ext (s : State) (b : Nat) (f : Guard → Guard) :
    (s.modGuard b f).ext = s.ext := rfl
@[simp] theorem modGuard_dripStart (s : State) (b : Nat) (f : Guard → Guard) :
    (s.modGuard b f).dripStart = s.dripStart := rfl
@[simp] theorem modGuard_lines (s : State) (b : Nat) (f : Guard → Guard) :
    (s.modGuard b f).lines = s.lines := rfl
@[simp] theorem modGuard_meter (s : State) (b : Nat) (f : Guard → Guard) :
    (s.modGuard b f).meter = s.meter := rfl
@[simp] theorem modGuard_patrol (s : State) (b : Nat) (f : Guard → Guard) :
    (s.modGuard b f).patrol = s.patrol := rfl
@[simp] theorem modGuard_capture (s : State) (b : Nat) (f : Guard → Guard) :
    (s.modGuard b f).capture = s.capture := rfl
@[simp] theorem modGuard_more (s : State) (b : Nat) (f : Guard → Guard) :
    (s.modGuard b f).more = s.more := rfl
@[simp] theorem modGuard_link (s : State) (b : Nat) (f : Guard → Guard) :
    (s.modGuard b f).link = s.link := rfl
@[simp] theorem modGuard_port (s : State) (b : Nat) (f : Guard → Guard) :
    (s.modGuard b f).port = s.port := rfl
@[simp] theorem modGuard_flags (s : State) (b : Nat) (f : Guard → Guard) :
    (s.modGuard b f).flags = s.flags := rfl
@[simp] theorem modGuard_attnLow (s : State) (b : Nat) (f : Guard → Guard) :
    (s.modGuard b f).attnLow = s.attnLow := rfl
@[simp] theorem modGuard_store (s : State) (b : Nat) (f : Guard → Guard) :
    (s.modGuard b f).store = s.store := rfl
@[simp] theorem modGuard_work (s : State) (b : Nat) (f : Guard → Guard) :
    (s.modGuard b f).work = s.work := rfl
@[simp] theorem modGuard_pending (s : State) (b : Nat) (f : Guard → Guard) :
    (s.modGuard b f).pending = s.pending := rfl

/-! ### modLine -/

@[simp] theorem modLine_now (s : State) (p : Phase) (f : Line → Line) :
    (s.modLine p f).now = s.now := rfl
@[simp] theorem modLine_restoredAt (s : State) (p : Phase) (f : Line → Line) :
    (s.modLine p f).restoredAt = s.restoredAt := rfl
@[simp] theorem modLine_strap (s : State) (p : Phase) (f : Line → Line) :
    (s.modLine p f).strap = s.strap := rfl
@[simp] theorem modLine_settings (s : State) (p : Phase) (f : Line → Line) :
    (s.modLine p f).settings = s.settings := rfl
@[simp] theorem modLine_slots (s : State) (p : Phase) (f : Line → Line) :
    (s.modLine p f).slots = s.slots := rfl
@[simp] theorem modLine_outlets (s : State) (p : Phase) (f : Line → Line) :
    (s.modLine p f).outlets = s.outlets := rfl
@[simp] theorem modLine_contexts (s : State) (p : Phase) (f : Line → Line) :
    (s.modLine p f).contexts = s.contexts := rfl
@[simp] theorem modLine_waitList (s : State) (p : Phase) (f : Line → Line) :
    (s.modLine p f).waitList = s.waitList := rfl
@[simp] theorem modLine_queue (s : State) (p : Phase) (f : Line → Line) :
    (s.modLine p f).queue = s.queue := rfl
@[simp] theorem modLine_gates (s : State) (p : Phase) (f : Line → Line) :
    (s.modLine p f).gates = s.gates := rfl
@[simp] theorem modLine_guards (s : State) (p : Phase) (f : Line → Line) :
    (s.modLine p f).guards = s.guards := rfl
@[simp] theorem modLine_ext (s : State) (p : Phase) (f : Line → Line) :
    (s.modLine p f).ext = s.ext := rfl
@[simp] theorem modLine_dripStart (s : State) (p : Phase) (f : Line → Line) :
    (s.modLine p f).dripStart = s.dripStart := rfl
@[simp] theorem modLine_meter (s : State) (p : Phase) (f : Line → Line) :
    (s.modLine p f).meter = s.meter := rfl
@[simp] theorem modLine_patrol (s : State) (p : Phase) (f : Line → Line) :
    (s.modLine p f).patrol = s.patrol := rfl
@[simp] theorem modLine_capture (s : State) (p : Phase) (f : Line → Line) :
    (s.modLine p f).capture = s.capture := rfl
@[simp] theorem modLine_more (s : State) (p : Phase) (f : Line → Line) :
    (s.modLine p f).more = s.more := rfl
@[simp] theorem modLine_link (s : State) (p : Phase) (f : Line → Line) :
    (s.modLine p f).link = s.link := rfl
@[simp] theorem modLine_port (s : State) (p : Phase) (f : Line → Line) :
    (s.modLine p f).port = s.port := rfl
@[simp] theorem modLine_flags (s : State) (p : Phase) (f : Line → Line) :
    (s.modLine p f).flags = s.flags := rfl
@[simp] theorem modLine_attnLow (s : State) (p : Phase) (f : Line → Line) :
    (s.modLine p f).attnLow = s.attnLow := rfl
@[simp] theorem modLine_store (s : State) (p : Phase) (f : Line → Line) :
    (s.modLine p f).store = s.store := rfl
@[simp] theorem modLine_work (s : State) (p : Phase) (f : Line → Line) :
    (s.modLine p f).work = s.work := rfl
@[simp] theorem modLine_pending (s : State) (p : Phase) (f : Line → Line) :
    (s.modLine p f).pending = s.pending := rfl

/-! ### setExtList -/

@[simp] theorem setExtList_now (s : State) (l : List ShedEntry) :
    (s.setExtList l).now = s.now := rfl
@[simp] theorem setExtList_restoredAt (s : State) (l : List ShedEntry) :
    (s.setExtList l).restoredAt = s.restoredAt := rfl
@[simp] theorem setExtList_strap (s : State) (l : List ShedEntry) :
    (s.setExtList l).strap = s.strap := rfl
@[simp] theorem setExtList_settings (s : State) (l : List ShedEntry) :
    (s.setExtList l).settings = s.settings := rfl
@[simp] theorem setExtList_slots (s : State) (l : List ShedEntry) :
    (s.setExtList l).slots = s.slots := rfl
@[simp] theorem setExtList_outlets (s : State) (l : List ShedEntry) :
    (s.setExtList l).outlets = s.outlets := rfl
@[simp] theorem setExtList_contexts (s : State) (l : List ShedEntry) :
    (s.setExtList l).contexts = s.contexts := rfl
@[simp] theorem setExtList_waitList (s : State) (l : List ShedEntry) :
    (s.setExtList l).waitList = s.waitList := rfl
@[simp] theorem setExtList_queue (s : State) (l : List ShedEntry) :
    (s.setExtList l).queue = s.queue := rfl
@[simp] theorem setExtList_gates (s : State) (l : List ShedEntry) :
    (s.setExtList l).gates = s.gates := rfl
@[simp] theorem setExtList_guards (s : State) (l : List ShedEntry) :
    (s.setExtList l).guards = s.guards := rfl
@[simp] theorem setExtList_dripStart (s : State) (l : List ShedEntry) :
    (s.setExtList l).dripStart = s.dripStart := rfl
@[simp] theorem setExtList_lines (s : State) (l : List ShedEntry) :
    (s.setExtList l).lines = s.lines := rfl
@[simp] theorem setExtList_meter (s : State) (l : List ShedEntry) :
    (s.setExtList l).meter = s.meter := rfl
@[simp] theorem setExtList_patrol (s : State) (l : List ShedEntry) :
    (s.setExtList l).patrol = s.patrol := rfl
@[simp] theorem setExtList_capture (s : State) (l : List ShedEntry) :
    (s.setExtList l).capture = s.capture := rfl
@[simp] theorem setExtList_more (s : State) (l : List ShedEntry) :
    (s.setExtList l).more = s.more := rfl
@[simp] theorem setExtList_link (s : State) (l : List ShedEntry) :
    (s.setExtList l).link = s.link := rfl
@[simp] theorem setExtList_port (s : State) (l : List ShedEntry) :
    (s.setExtList l).port = s.port := rfl
@[simp] theorem setExtList_flags (s : State) (l : List ShedEntry) :
    (s.setExtList l).flags = s.flags := rfl
@[simp] theorem setExtList_attnLow (s : State) (l : List ShedEntry) :
    (s.setExtList l).attnLow = s.attnLow := rfl
@[simp] theorem setExtList_store (s : State) (l : List ShedEntry) :
    (s.setExtList l).store = s.store := rfl
@[simp] theorem setExtList_work (s : State) (l : List ShedEntry) :
    (s.setExtList l).work = s.work := rfl
@[simp] theorem setExtList_pending (s : State) (l : List ShedEntry) :
    (s.setExtList l).pending = s.pending := rfl

/-! ### transmit -/

@[simp] theorem transmit_now (s : State) (f : LinkFrame) :
    (s.transmit f).now = s.now := rfl
@[simp] theorem transmit_restoredAt (s : State) (f : LinkFrame) :
    (s.transmit f).restoredAt = s.restoredAt := rfl
@[simp] theorem transmit_strap (s : State) (f : LinkFrame) :
    (s.transmit f).strap = s.strap := rfl
@[simp] theorem transmit_settings (s : State) (f : LinkFrame) :
    (s.transmit f).settings = s.settings := rfl
@[simp] theorem transmit_slots (s : State) (f : LinkFrame) :
    (s.transmit f).slots = s.slots := rfl
@[simp] theorem transmit_outlets (s : State) (f : LinkFrame) :
    (s.transmit f).outlets = s.outlets := rfl
@[simp] theorem transmit_contexts (s : State) (f : LinkFrame) :
    (s.transmit f).contexts = s.contexts := rfl
@[simp] theorem transmit_waitList (s : State) (f : LinkFrame) :
    (s.transmit f).waitList = s.waitList := rfl
@[simp] theorem transmit_queue (s : State) (f : LinkFrame) :
    (s.transmit f).queue = s.queue := rfl
@[simp] theorem transmit_gates (s : State) (f : LinkFrame) :
    (s.transmit f).gates = s.gates := rfl
@[simp] theorem transmit_guards (s : State) (f : LinkFrame) :
    (s.transmit f).guards = s.guards := rfl
@[simp] theorem transmit_ext (s : State) (f : LinkFrame) :
    (s.transmit f).ext = s.ext := rfl
@[simp] theorem transmit_dripStart (s : State) (f : LinkFrame) :
    (s.transmit f).dripStart = s.dripStart := rfl
@[simp] theorem transmit_lines (s : State) (f : LinkFrame) :
    (s.transmit f).lines = s.lines := rfl
@[simp] theorem transmit_meter (s : State) (f : LinkFrame) :
    (s.transmit f).meter = s.meter := rfl
@[simp] theorem transmit_patrol (s : State) (f : LinkFrame) :
    (s.transmit f).patrol = s.patrol := rfl
@[simp] theorem transmit_capture (s : State) (f : LinkFrame) :
    (s.transmit f).capture = s.capture := rfl
@[simp] theorem transmit_more (s : State) (f : LinkFrame) :
    (s.transmit f).more = s.more := rfl
@[simp] theorem transmit_port (s : State) (f : LinkFrame) :
    (s.transmit f).port = s.port := rfl
@[simp] theorem transmit_flags (s : State) (f : LinkFrame) :
    (s.transmit f).flags = s.flags := rfl
@[simp] theorem transmit_attnLow (s : State) (f : LinkFrame) :
    (s.transmit f).attnLow = s.attnLow := rfl
@[simp] theorem transmit_store (s : State) (f : LinkFrame) :
    (s.transmit f).store = s.store := rfl
@[simp] theorem transmit_work (s : State) (f : LinkFrame) :
    (s.transmit f).work = s.work := rfl
@[simp] theorem transmit_pending (s : State) (f : LinkFrame) :
    (s.transmit f).pending = s.pending := rfl

/-! ### raiseFlag -/

@[simp] theorem raiseFlag_now (s : State) (f : Flag) :
    (s.raiseFlag f).now = s.now := rfl
@[simp] theorem raiseFlag_restoredAt (s : State) (f : Flag) :
    (s.raiseFlag f).restoredAt = s.restoredAt := rfl
@[simp] theorem raiseFlag_strap (s : State) (f : Flag) :
    (s.raiseFlag f).strap = s.strap := rfl
@[simp] theorem raiseFlag_settings (s : State) (f : Flag) :
    (s.raiseFlag f).settings = s.settings := rfl
@[simp] theorem raiseFlag_slots (s : State) (f : Flag) :
    (s.raiseFlag f).slots = s.slots := rfl
@[simp] theorem raiseFlag_outlets (s : State) (f : Flag) :
    (s.raiseFlag f).outlets = s.outlets := rfl
@[simp] theorem raiseFlag_contexts (s : State) (f : Flag) :
    (s.raiseFlag f).contexts = s.contexts := rfl
@[simp] theorem raiseFlag_waitList (s : State) (f : Flag) :
    (s.raiseFlag f).waitList = s.waitList := rfl
@[simp] theorem raiseFlag_queue (s : State) (f : Flag) :
    (s.raiseFlag f).queue = s.queue := rfl
@[simp] theorem raiseFlag_gates (s : State) (f : Flag) :
    (s.raiseFlag f).gates = s.gates := rfl
@[simp] theorem raiseFlag_guards (s : State) (f : Flag) :
    (s.raiseFlag f).guards = s.guards := rfl
@[simp] theorem raiseFlag_ext (s : State) (f : Flag) :
    (s.raiseFlag f).ext = s.ext := rfl
@[simp] theorem raiseFlag_dripStart (s : State) (f : Flag) :
    (s.raiseFlag f).dripStart = s.dripStart := rfl
@[simp] theorem raiseFlag_lines (s : State) (f : Flag) :
    (s.raiseFlag f).lines = s.lines := rfl
@[simp] theorem raiseFlag_meter (s : State) (f : Flag) :
    (s.raiseFlag f).meter = s.meter := rfl
@[simp] theorem raiseFlag_patrol (s : State) (f : Flag) :
    (s.raiseFlag f).patrol = s.patrol := rfl
@[simp] theorem raiseFlag_capture (s : State) (f : Flag) :
    (s.raiseFlag f).capture = s.capture := rfl
@[simp] theorem raiseFlag_more (s : State) (f : Flag) :
    (s.raiseFlag f).more = s.more := rfl
@[simp] theorem raiseFlag_link (s : State) (f : Flag) :
    (s.raiseFlag f).link = s.link := rfl
@[simp] theorem raiseFlag_port (s : State) (f : Flag) :
    (s.raiseFlag f).port = s.port := rfl
@[simp] theorem raiseFlag_attnLow (s : State) (f : Flag) :
    (s.raiseFlag f).attnLow = s.attnLow := rfl
@[simp] theorem raiseFlag_store (s : State) (f : Flag) :
    (s.raiseFlag f).store = s.store := rfl
@[simp] theorem raiseFlag_work (s : State) (f : Flag) :
    (s.raiseFlag f).work = s.work := rfl
@[simp] theorem raiseFlag_pending (s : State) (f : Flag) :
    (s.raiseFlag f).pending = s.pending := rfl

/-! ### judgeLine -/

@[simp] theorem judgeLine_now (s : State) :
    (s.judgeLine).now = s.now := rfl
@[simp] theorem judgeLine_restoredAt (s : State) :
    (s.judgeLine).restoredAt = s.restoredAt := rfl
@[simp] theorem judgeLine_strap (s : State) :
    (s.judgeLine).strap = s.strap := rfl
@[simp] theorem judgeLine_settings (s : State) :
    (s.judgeLine).settings = s.settings := rfl
@[simp] theorem judgeLine_slots (s : State) :
    (s.judgeLine).slots = s.slots := rfl
@[simp] theorem judgeLine_outlets (s : State) :
    (s.judgeLine).outlets = s.outlets := rfl
@[simp] theorem judgeLine_contexts (s : State) :
    (s.judgeLine).contexts = s.contexts := rfl
@[simp] theorem judgeLine_waitList (s : State) :
    (s.judgeLine).waitList = s.waitList := rfl
@[simp] theorem judgeLine_queue (s : State) :
    (s.judgeLine).queue = s.queue := rfl
@[simp] theorem judgeLine_gates (s : State) :
    (s.judgeLine).gates = s.gates := rfl
@[simp] theorem judgeLine_guards (s : State) :
    (s.judgeLine).guards = s.guards := rfl
@[simp] theorem judgeLine_ext (s : State) :
    (s.judgeLine).ext = s.ext := rfl
@[simp] theorem judgeLine_dripStart (s : State) :
    (s.judgeLine).dripStart = s.dripStart := rfl
@[simp] theorem judgeLine_lines (s : State) :
    (s.judgeLine).lines = s.lines := rfl
@[simp] theorem judgeLine_meter (s : State) :
    (s.judgeLine).meter = s.meter := rfl
@[simp] theorem judgeLine_patrol (s : State) :
    (s.judgeLine).patrol = s.patrol := rfl
@[simp] theorem judgeLine_capture (s : State) :
    (s.judgeLine).capture = s.capture := rfl
@[simp] theorem judgeLine_more (s : State) :
    (s.judgeLine).more = s.more := rfl
@[simp] theorem judgeLine_link (s : State) :
    (s.judgeLine).link = s.link := rfl
@[simp] theorem judgeLine_port (s : State) :
    (s.judgeLine).port = s.port := rfl
@[simp] theorem judgeLine_flags (s : State) :
    (s.judgeLine).flags = s.flags := rfl
@[simp] theorem judgeLine_store (s : State) :
    (s.judgeLine).store = s.store := rfl
@[simp] theorem judgeLine_work (s : State) :
    (s.judgeLine).work = s.work := rfl
@[simp] theorem judgeLine_pending (s : State) :
    (s.judgeLine).pending = s.pending := rfl

/-! ### quiet -/

@[simp] theorem quiet_now (s : State) :
    (s.quiet).now = s.now := rfl
@[simp] theorem quiet_restoredAt (s : State) :
    (s.quiet).restoredAt = s.restoredAt := rfl
@[simp] theorem quiet_strap (s : State) :
    (s.quiet).strap = s.strap := rfl
@[simp] theorem quiet_settings (s : State) :
    (s.quiet).settings = s.settings := rfl
@[simp] theorem quiet_slots (s : State) :
    (s.quiet).slots = s.slots := rfl
@[simp] theorem quiet_outlets (s : State) :
    (s.quiet).outlets = s.outlets := rfl
@[simp] theorem quiet_contexts (s : State) :
    (s.quiet).contexts = s.contexts := rfl
@[simp] theorem quiet_waitList (s : State) :
    (s.quiet).waitList = s.waitList := rfl
@[simp] theorem quiet_queue (s : State) :
    (s.quiet).queue = s.queue := rfl
@[simp] theorem quiet_gates (s : State) :
    (s.quiet).gates = s.gates := rfl
@[simp] theorem quiet_guards (s : State) :
    (s.quiet).guards = s.guards := rfl
@[simp] theorem quiet_ext (s : State) :
    (s.quiet).ext = s.ext := rfl
@[simp] theorem quiet_dripStart (s : State) :
    (s.quiet).dripStart = s.dripStart := rfl
@[simp] theorem quiet_lines (s : State) :
    (s.quiet).lines = s.lines := rfl
@[simp] theorem quiet_meter (s : State) :
    (s.quiet).meter = s.meter := rfl
@[simp] theorem quiet_patrol (s : State) :
    (s.quiet).patrol = s.patrol := rfl
@[simp] theorem quiet_capture (s : State) :
    (s.quiet).capture = s.capture := rfl
@[simp] theorem quiet_more (s : State) :
    (s.quiet).more = s.more := rfl
@[simp] theorem quiet_link (s : State) :
    (s.quiet).link = s.link := rfl
@[simp] theorem quiet_flags (s : State) :
    (s.quiet).flags = s.flags := rfl
@[simp] theorem quiet_attnLow (s : State) :
    (s.quiet).attnLow = s.attnLow := rfl
@[simp] theorem quiet_store (s : State) :
    (s.quiet).store = s.store := rfl
@[simp] theorem quiet_work (s : State) :
    (s.quiet).work = s.work := rfl
@[simp] theorem quiet_pending (s : State) :
    (s.quiet).pending = s.pending := rfl

/-! ### place -/

@[simp] theorem place_now (s : State) (k : Byte) (st : Status) (b : AnswerBody) :
    (s.place k st b).now = s.now := rfl
@[simp] theorem place_restoredAt (s : State) (k : Byte) (st : Status) (b : AnswerBody) :
    (s.place k st b).restoredAt = s.restoredAt := rfl
@[simp] theorem place_strap (s : State) (k : Byte) (st : Status) (b : AnswerBody) :
    (s.place k st b).strap = s.strap := rfl
@[simp] theorem place_settings (s : State) (k : Byte) (st : Status) (b : AnswerBody) :
    (s.place k st b).settings = s.settings := rfl
@[simp] theorem place_slots (s : State) (k : Byte) (st : Status) (b : AnswerBody) :
    (s.place k st b).slots = s.slots := rfl
@[simp] theorem place_outlets (s : State) (k : Byte) (st : Status) (b : AnswerBody) :
    (s.place k st b).outlets = s.outlets := rfl
@[simp] theorem place_contexts (s : State) (k : Byte) (st : Status) (b : AnswerBody) :
    (s.place k st b).contexts = s.contexts := rfl
@[simp] theorem place_waitList (s : State) (k : Byte) (st : Status) (b : AnswerBody) :
    (s.place k st b).waitList = s.waitList := rfl
@[simp] theorem place_queue (s : State) (k : Byte) (st : Status) (b : AnswerBody) :
    (s.place k st b).queue = s.queue := rfl
@[simp] theorem place_gates (s : State) (k : Byte) (st : Status) (b : AnswerBody) :
    (s.place k st b).gates = s.gates := rfl
@[simp] theorem place_guards (s : State) (k : Byte) (st : Status) (b : AnswerBody) :
    (s.place k st b).guards = s.guards := rfl
@[simp] theorem place_ext (s : State) (k : Byte) (st : Status) (b : AnswerBody) :
    (s.place k st b).ext = s.ext := rfl
@[simp] theorem place_dripStart (s : State) (k : Byte) (st : Status) (b : AnswerBody) :
    (s.place k st b).dripStart = s.dripStart := rfl
@[simp] theorem place_lines (s : State) (k : Byte) (st : Status) (b : AnswerBody) :
    (s.place k st b).lines = s.lines := rfl
@[simp] theorem place_meter (s : State) (k : Byte) (st : Status) (b : AnswerBody) :
    (s.place k st b).meter = s.meter := rfl
@[simp] theorem place_patrol (s : State) (k : Byte) (st : Status) (b : AnswerBody) :
    (s.place k st b).patrol = s.patrol := rfl
@[simp] theorem place_capture (s : State) (k : Byte) (st : Status) (b : AnswerBody) :
    (s.place k st b).capture = s.capture := rfl
@[simp] theorem place_more (s : State) (k : Byte) (st : Status) (b : AnswerBody) :
    (s.place k st b).more = s.more := rfl
@[simp] theorem place_link (s : State) (k : Byte) (st : Status) (b : AnswerBody) :
    (s.place k st b).link = s.link := rfl
@[simp] theorem place_flags (s : State) (k : Byte) (st : Status) (b : AnswerBody) :
    (s.place k st b).flags = s.flags := rfl
@[simp] theorem place_attnLow (s : State) (k : Byte) (st : Status) (b : AnswerBody) :
    (s.place k st b).attnLow = s.attnLow := rfl
@[simp] theorem place_store (s : State) (k : Byte) (st : Status) (b : AnswerBody) :
    (s.place k st b).store = s.store := rfl
@[simp] theorem place_work (s : State) (k : Byte) (st : Status) (b : AnswerBody) :
    (s.place k st b).work = s.work := rfl
@[simp] theorem place_pending (s : State) (k : Byte) (st : Status) (b : AnswerBody) :
    (s.place k st b).pending = s.pending := rfl

/-! ### under -/

@[simp] theorem under_now (s : State) (g : Settings) :
    (s.under g).now = s.now := rfl
@[simp] theorem under_restoredAt (s : State) (g : Settings) :
    (s.under g).restoredAt = s.restoredAt := rfl
@[simp] theorem under_strap (s : State) (g : Settings) :
    (s.under g).strap = s.strap := rfl
@[simp] theorem under_slots (s : State) (g : Settings) :
    (s.under g).slots = s.slots := rfl
@[simp] theorem under_outlets (s : State) (g : Settings) :
    (s.under g).outlets = s.outlets := rfl
@[simp] theorem under_contexts (s : State) (g : Settings) :
    (s.under g).contexts = s.contexts := rfl
@[simp] theorem under_waitList (s : State) (g : Settings) :
    (s.under g).waitList = s.waitList := rfl
@[simp] theorem under_queue (s : State) (g : Settings) :
    (s.under g).queue = s.queue := rfl
@[simp] theorem under_gates (s : State) (g : Settings) :
    (s.under g).gates = s.gates := rfl
@[simp] theorem under_guards (s : State) (g : Settings) :
    (s.under g).guards = s.guards := rfl
@[simp] theorem under_ext (s : State) (g : Settings) :
    (s.under g).ext = s.ext := rfl
@[simp] theorem under_dripStart (s : State) (g : Settings) :
    (s.under g).dripStart = s.dripStart := rfl
@[simp] theorem under_lines (s : State) (g : Settings) :
    (s.under g).lines = s.lines := rfl
@[simp] theorem under_meter (s : State) (g : Settings) :
    (s.under g).meter = s.meter := rfl
@[simp] theorem under_patrol (s : State) (g : Settings) :
    (s.under g).patrol = s.patrol := rfl
@[simp] theorem under_capture (s : State) (g : Settings) :
    (s.under g).capture = s.capture := rfl
@[simp] theorem under_more (s : State) (g : Settings) :
    (s.under g).more = s.more := rfl
@[simp] theorem under_link (s : State) (g : Settings) :
    (s.under g).link = s.link := rfl
@[simp] theorem under_port (s : State) (g : Settings) :
    (s.under g).port = s.port := rfl
@[simp] theorem under_flags (s : State) (g : Settings) :
    (s.under g).flags = s.flags := rfl
@[simp] theorem under_attnLow (s : State) (g : Settings) :
    (s.under g).attnLow = s.attnLow := rfl
@[simp] theorem under_store (s : State) (g : Settings) :
    (s.under g).store = s.store := rfl
@[simp] theorem under_work (s : State) (g : Settings) :
    (s.under g).work = s.work := rfl
@[simp] theorem under_pending (s : State) (g : Settings) :
    (s.under g).pending = s.pending := rfl

/-! ### Updates that look first -/

@[simp] theorem modOutlet_eq (s : State) (n : Nat) (f : Outlet → Outlet) :
    s.modOutlet n f = s.setOutlet n (f (s.outlet n)) := rfl
@[simp] theorem setLoad_eq (s : State) (i : Nat) (l : Load) :
    s.setLoad i l = s.setSlot i { s.slot i with load := some l } := rfl
@[simp] theorem emptyOut_eq (s : State) (i : Nat) :
    s.emptyOut i = s.setSlot i { s.slot i with load := none } := rfl

/-! ### What MISO carries, place by place -/

@[simp] theorem byteAt_nothing (place : Nat) : Miso.nothing.byteAt place = 0x00 := rfl
@[simp] theorem byteAt_notReady_first : Miso.notReady.byteAt 0 = 0x00 := rfl
@[simp] theorem byteAt_notReady_second : Miso.notReady.byteAt 1 = 0xEE := rfl
@[simp] theorem byteAt_notReady_later (k : Nat) : Miso.notReady.byteAt (k + 2) = 0x00 := rfl
@[simp] theorem byteAt_answer_first (a : Answer) : (Miso.answer a).byteAt 0 = 0x00 := rfl
theorem byteAt_answer_frame (a : Answer) (k : Nat) (b : Byte) (h : a.frame[k]? = some b) :
    (Miso.answer a).byteAt (k + 1) = b := by simp [Miso.byteAt, Miso.lead, h]
theorem byteAt_answer_past (a : Answer) (k : Nat) (h : a.frame[k]? = none) :
    (Miso.answer a).byteAt (k + 1) = Config.pastFrame a (k + 1) := by simp [Miso.byteAt, Miso.lead, h]

end Sys2Proof.Machine
end

