-- ==== Sys2Proof/Laws/Steady.lean ====
section
/-! SUPPORT. What every operation of the model can do to the state, said once. An `Inv` is a property that the
model's primitive updates keep; each operation keeps every `Inv`. One instance then gives a frame (a field no
command but some changes) or an invariant (a range, an order, a bound). -/

namespace Sys2Proof.Machine

/-- How an operation may change an outlet: what it counts does not rise, its ranges stay, and its window figures
and energy are untouched. -/
def OutletMove (o o' : Outlet) : Prop :=
  o'.weight ≤ o.weight ∧ (o.inRange = true → o'.inRange = true) ∧ o'.energy = o.energy ∧
    o'.residue = o.residue ∧ o'.current = o.current ∧ o'.power = o.power ∧ o'.offset = o.offset

/-- How an operation may change a slot: the strike bound stays. -/
def SlotMove (v v' : Slot) : Prop := v.strikesKept = true → v'.strikesKept = true

/-- How an operation may change the port: PRST_N stands, and a port idle under it stays so. -/
def PortMove (p p' : Port) : Prop :=
  p'.prstLow = p.prstLow ∧ (p.prstLow = true → p.state = .idle → p'.state = .idle)

/-- How an operation may change the link: the presence state, the announcement and the timers of HELLO stand. -/
def LinkMove (l l' : Link) : Prop :=
  l'.presence = l.presence ∧ l'.announce = l.announce ∧ l'.silence = l.silence ∧ l'.nextHello = l.nextHello ∧
    l'.side = l.side

/-- A property that the primitive updates keep. -/
structure Inv where
  /-- the property -/
  holds : State → Prop
  outlet : ∀ s n o, holds s → OutletMove (s.outlet n) o → holds (s.setOutlet n o)
  slot : ∀ s i v, holds s → SlotMove (s.slot i) v → holds (s.setSlot i v)
  context : ∀ s v, holds s → holds { s with contexts := v }
  waitList : ∀ s l, holds s → holds { s with waitList := l }
  gates : ∀ s v, holds s → holds { s with gates := v }
  guards : ∀ s v, holds s → holds { s with guards := v }
  ext : ∀ s v, holds s → holds { s with ext := v }
  work : ∀ s v, holds s → holds { s with work := v }
  link : ∀ s v, holds s → LinkMove s.link v → holds { s with link := v }
  flag : ∀ s f, holds s → holds (s.raiseFlag f)
  attn : ∀ s, holds s → holds s.judgeLine
  dequeue : ∀ s (f : Entry → Bool), holds s → holds { s with queue := s.queue.filter f }
  enqueue : ∀ s e, holds s → s.hasEntry e.outlet = false → e.arrival = s.now →
    holds { s with queue := placeEntry e s.queue }

/-- The state has the property. -/
def Inv.Holds (I : Inv) (s : State) : Prop := I.holds s

namespace Laws

variable {I : Inv}

/-! ### Primitive updates -/

theorem setOutlet_steady {s : State} {n : Nat} {o : Outlet} (h : I.Holds s) (m : OutletMove (s.outlet n) o) :
    I.Holds (s.setOutlet n o) := I.outlet s n o h m

theorem setSlot_steady {s : State} {i : Nat} {v : Slot} (h : I.Holds s) (m : SlotMove (s.slot i) v) :
    I.Holds (s.setSlot i v) := I.slot s i v h m

theorem raiseFlag_steady {s : State} {f : Flag} (h : I.Holds s) : I.Holds (s.raiseFlag f) := I.flag s f h
theorem judgeLine_steady {s : State} (h : I.Holds s) : I.Holds s.judgeLine := I.attn s h
theorem setContext_steady {s : State} {k : Nat} {c : Option Context} (h : I.Holds s) :
    I.Holds (s.setContext k c) := I.context s _ h
theorem modGate_steady {s : State} {b : Nat} {f : Gate → Gate} (h : I.Holds s) : I.Holds (s.modGate b f) :=
  I.gates s _ h
theorem modGuard_steady {s : State} {b : Nat} {f : Guard → Guard} (h : I.Holds s) : I.Holds (s.modGuard b f) :=
  I.guards s _ h
theorem setExtList_steady {s : State} {l : List ShedEntry} (h : I.Holds s) : I.Holds (s.setExtList l) :=
  I.ext s _ h
theorem ext_steady {s : State} {v : ExtShed} (h : I.Holds s) : I.Holds { s with ext := v } := I.ext s _ h
theorem waitList_steady {s : State} {l : List Waiter} (h : I.Holds s) : I.Holds { s with waitList := l } :=
  I.waitList s _ h
theorem work_steady {s : State} {w : Work} (h : I.Holds s) : I.Holds { s with work := w } := I.work s _ h
theorem link_steady {s : State} {l : Link} (h : I.Holds s) (m : LinkMove s.link l) :
    I.Holds { s with link := l } := I.link s _ h m
theorem dequeue_steady {s : State} {f : Entry → Bool} (h : I.Holds s) :
    I.Holds { s with queue := s.queue.filter f } := I.dequeue s f h

/-- A fold of steady operations is steady. -/
theorem foldl_steady {α : Type} {f : State → α → State} (hf : ∀ s a, I.Holds s → I.Holds (f s a)) :
    ∀ (l : List α) (s : State), I.Holds s → I.Holds (l.foldl f s)
  | [], _, h => h
  | a :: l, s, h => foldl_steady hf l (f s a) (hf s a h)

/-! ### Queue, flags and records -/

theorem transmit_steady {s : State} {f : LinkFrame} (h : I.Holds s) : I.Holds (s.transmit f) :=
  link_steady h ⟨rfl, rfl, rfl, rfl, rfl⟩
theorem gateDue_steady {s : State} {b : Nat} (h : I.Holds s) : I.Holds (s.gateDue b) := by
  unfold State.gateDue; split
  · exact h
  · exact work_steady h
theorem listDue_steady {s : State} {b : Nat} (h : I.Holds s) : I.Holds (s.listDue b) := by
  unfold State.listDue; split
  · exact h
  · exact work_steady h

/-- A record whose strikes and strike threshold stand keeps the strike bound. -/
theorem slotMove_load {v : Slot} {l : Load} {c : Nat} (hv : v.load = some l) {l' : Load}
    (h : l.strikesKept = true → l'.strikesKept = true) : SlotMove v { counter := c, load := some l' } := by
  intro k; simp only [Slot.strikesKept, hv] at k ⊢; exact h k

theorem slotMove_none {v : Slot} {c : Nat} : SlotMove v { counter := c, load := none } := fun _ => rfl

theorem setLoad_steady {s : State} {i : Nat} {l l' : Load} (h : I.Holds s) (hl : s.load i = some l)
    (k : l.strikesKept = true → l'.strikesKept = true) : I.Holds (s.setLoad i l') :=
  setSlot_steady h (slotMove_load hl k)

theorem modLoad_steady {s : State} {i : Nat} {f : Load → Load} (h : I.Holds s)
    (k : ∀ l, l.strikesKept = true → (f l).strikesKept = true) : I.Holds (s.modLoad i f) := by
  unfold State.modLoad; split
  · exact setLoad_steady h (by assumption) (k _)
  · exact h

theorem bumpRevision_steady {s : State} {i : Nat} (h : I.Holds s) : I.Holds (s.bumpRevision i) := by
  unfold State.bumpRevision; split
  · rename_i l hl
    exact setSlot_steady h (slotMove_load (l := l) hl id)
  · exact h

theorem notice_steady {s : State} {i : Nat} {k : Notice} (h : I.Holds s) : I.Holds (s.notice i k) := by
  unfold State.notice; split
  · rename_i l hl
    exact raiseFlag_steady (setLoad_steady (l := l) h hl id)
  · exact h

/-- An outlet whose owner, reservation, counts, times and figures stand. -/
theorem outletMove_of {o o' : Outlet} (ho : o'.owner = o.owner) (hr : o'.reservation = o.reservation)
    (hc : o'.closeTime = o.closeTime) (hp : o'.openTime = o.openTime) (hf : o'.faults = o.faults)
    (hn : o'.ops = o.ops) (h1 : o'.energy = o.energy) (h2 : o'.residue = o.residue) (h3 : o'.current = o.current)
    (h4 : o'.power = o.power) (h5 : o'.offset = o.offset) : OutletMove o o' := by
  refine ⟨?_, ?_, h1, h2, h3, h4, h5⟩
  · simp [Outlet.weight, Outlet.owned, Outlet.isFree, ho, hr]
  · intro k; simpa [Outlet.inRange, hc, hp, hf, hn] using k

theorem keeps_steady {s : State} {n : Nat} {o : Outlet} (h : I.Holds s)
    (ho : o.owner = (s.outlet n).owner := by rfl) (hr : o.reservation = (s.outlet n).reservation := by rfl)
    (hc : o.closeTime = (s.outlet n).closeTime := by rfl) (hp : o.openTime = (s.outlet n).openTime := by rfl)
    (hf : o.faults = (s.outlet n).faults := by rfl) (hn : o.ops = (s.outlet n).ops := by rfl)
    (h1 : o.energy = (s.outlet n).energy := by rfl) (h2 : o.residue = (s.outlet n).residue := by rfl)
    (h3 : o.current = (s.outlet n).current := by rfl) (h4 : o.power = (s.outlet n).power := by rfl)
    (h5 : o.offset = (s.outlet n).offset := by rfl) : I.Holds (s.setOutlet n o) :=
  setOutlet_steady h (outletMove_of ho hr hc hp hf hn h1 h2 h3 h4 h5)

theorem insert_steady {s : State} {n : Nat} {owner : Owner} {cause : QueueCause} {prio : Nat} (h : I.Holds s) :
    I.Holds (s.insert n owner cause prio) := by
  unfold State.insert
  dsimp only
  split
  · exact h
  · rename_i hn
    repeat' split
    all_goals first
      | exact h
      | exact keeps_steady h
      | exact gateDue_steady (I.enqueue s _ h (by simpa using hn) rfl)

theorem insertLocals_steady {s : State} {i : Nat} {cause : QueueCause} {ns : List Nat} (h : I.Holds s) :
    I.Holds (s.insertLocals i cause ns) := by
  unfold State.insertLocals; split
  · exact foldl_steady (fun s n hs => insert_steady hs) _ _ h
  · exact h

theorem insertLent_steady {s : State} {cause : QueueCause} {n : Nat} (h : I.Holds s) :
    I.Holds (s.insertLent cause n) := by
  unfold State.insertLent; split
  · exact insert_steady h
  · exact h

theorem withdraw_steady {s : State} {n : Nat} (h : I.Holds s) : I.Holds (s.withdraw n) := by
  unfold State.withdraw; split
  · exact gateDue_steady (dequeue_steady h)
  · exact h

theorem withdrawAll_steady {s : State} {ns : List Nat} (h : I.Holds s) : I.Holds (s.withdrawAll ns) :=
  foldl_steady (fun _ _ hs => withdraw_steady hs) _ _ h

/-! ### Switching -/

theorem startOpen_steady {s : State} {n : Nat} (h : I.Holds s) : I.Holds (s.startOpen n) := keeps_steady h

theorem openRequest_steady {s : State} {n : Nat} (h : I.Holds s) : I.Holds (s.openRequest n) := by
  have hw := withdraw_steady (n := n) h
  unfold State.openRequest; dsimp only
  split
  · exact hw
  · exact keeps_steady hw
  · split
    · exact startOpen_steady hw
    · exact hw

theorem openClosed_steady {s : State} {ns : List Nat} (h : I.Holds s) : I.Holds (s.openClosed ns) :=
  foldl_steady (fun s n hs => by
    split
    · exact openRequest_steady hs
    · exact hs) _ _ h

theorem startClose_steady {s : State} {n : Nat} (h : I.Holds s) : I.Holds (s.startClose n) := keeps_steady h

theorem judgeWear_steady {s : State} {n : Nat} (h : I.Holds s) : I.Holds (s.judgeWear n) := by
  unfold State.judgeWear; dsimp only; split
  · split
    · exact notice_steady (keeps_steady h)
    · exact keeps_steady h
  · exact h

theorem sense_steady {s : State} {n v : Nat} (h : I.Holds s) : I.Holds (s.sense n v) := keeps_steady h

theorem senseAll_steady {s : State} {ns : List Nat} (h : I.Holds s) : I.Holds (s.senseAll ns) :=
  foldl_steady (fun _ _ hs => sense_steady hs) _ _ h

/-! ### Shed lists -/

theorem setShedList_steady {s : State} {b : Nat} {l : List ShedEntry} (h : I.Holds s) :
    I.Holds (s.setShedList b l) := by
  unfold State.setShedList; dsimp only; split
  · exact listDue_steady (modGuard_steady h)
  · exact modGuard_steady h

theorem onShedLists_steady {s : State} {f : List ShedEntry → List ShedEntry} (h : I.Holds s) :
    I.Holds (s.onShedLists f) :=
  setExtList_steady (foldl_steady (fun _ _ hs => setShedList_steady hs) _ _ h)

theorem dropVictim_steady {s : State} {v : Victim} (h : I.Holds s) : I.Holds (s.dropVictim v) :=
  onShedLists_steady h

theorem clearShed_steady {s : State} {ns : List Nat} (h : I.Holds s) : I.Holds (s.clearShed ns) :=
  foldl_steady (fun _ _ hs => keeps_steady hs) _ _ h

theorem clearLineLost_steady {s : State} {ns : List Nat} (h : I.Holds s) : I.Holds (s.clearLineLost ns) :=
  foldl_steady (fun _ _ hs => keeps_steady hs) _ _ h

theorem leaveShed_steady {s : State} {n : Nat} (h : I.Holds s) : I.Holds (s.leaveShed n) := by
  unfold State.leaveShed; split
  · exact keeps_steady (onShedLists_steady h)
  · exact h

theorem closedLeavesShed_steady {s : State} {n : Nat} (h : I.Holds s) : I.Holds (s.closedLeavesShed n) := by
  have hl := leaveShed_steady (n := n) h
  unfold State.closedLeavesShed; dsimp only; split
  · split
    · exact notice_steady hl
    · exact hl
  · exact hl

theorem unshedLoad_steady {s : State} {i : Nat} (h : I.Holds s) : I.Holds (s.unshedLoad i) :=
  clearShed_steady (dropVictim_steady h)

theorem markShed_steady {s : State} {p : ShedPlace} {v : Victim} {k : ShedKind} {ns : List Nat} (h : I.Holds s) :
    I.Holds (s.markShed p v k ns) := by
  have hm : I.Holds ((ns.filter fun n => !(s.outlet n).shed).foldl
      (fun s n => s.modOutlet n fun o => { o with shed := true }) s) :=
    foldl_steady (fun _ _ hs => keeps_steady hs) _ _ h
  unfold State.markShed; dsimp only; split
  · exact hm
  · split
    · exact modGuard_steady hm
    · exact setExtList_steady hm

/-! ### Orders and loads -/

theorem sendOrder_steady {s : State} {i : Nat} {k : OrderKind} {w : Sender} {t : Nat}
    {f : Tag → Nat → LinkFrame} (h : I.Holds s) : I.Holds (s.sendOrder i k w t f) := by
  unfold State.sendOrder; split
  · rename_i l hl
    refine transmit_steady (setLoad_steady (l := l) (link_steady h ⟨rfl, rfl, rfl, rfl, rfl⟩) ?_ id)
    exact hl
  · exact h

theorem sendBind_steady {s : State} {i : Nat} {w : Sender} {es : List OutletRes} (h : I.Holds s) :
    I.Holds (s.sendBind i w es) := by
  unfold State.sendBind; split
  · exact sendOrder_steady h
  · exact h
theorem sendUnbind_steady {s : State} {i : Nat} {w : Sender} (h : I.Holds s) : I.Holds (s.sendUnbind i w) :=
  sendOrder_steady h
theorem sendDrop_steady {s : State} {i : Nat} {w : Sender} {t : Nat} (h : I.Holds s) :
    I.Holds (s.sendDrop i w t) := sendOrder_steady h
theorem sendRaise_steady {s : State} {i : Nat} {w : Sender} (h : I.Holds s) : I.Holds (s.sendRaise i w) :=
  sendOrder_steady h

theorem dropPeers_steady {s : State} {i : Nat} {w : Sender} (h : I.Holds s) : I.Holds (s.dropPeers i w) := by
  unfold State.dropPeers; split
  · split
    · exact sendDrop_steady h
    · exact notice_steady h
  · exact h

/-- An applied policy keeps the strike bound: the clip of R37. -/
theorem applied_strikes {l : Load} {p : PolicyChange} {take : Bool} {now : Nat} (h : l.strikesKept = true) :
    (Load.applied l p take now).strikesKept = true := by
  have hw : (Load.withPolicy l p).strikesKept = true := by
    simp only [Load.strikesKept, decide_eq_true_eq] at h ⊢
    by_cases hc : p.cycle.isSome = true
    · simp only [Load.withPolicy, hc, if_true]; exact Nat.min_le_right _ _
    · have hn : p.cycle = none := by simpa using hc
      simpa [Load.withPolicy, hn] using h
  unfold Load.applied; dsimp only
  split
  · unfold Load.takeUp; split
    · exact hw
    · exact hw
  · exact hw

theorem latch_steady {s : State} {i : Nat} {take : Bool} (h : I.Holds s) : I.Holds (s.latch i take) := by
  unfold State.latch; split
  · rename_i l hl
    split
    · exact notice_steady (bumpRevision_steady (setLoad_steady h hl fun k => applied_strikes k))
    · exact h
  · exact h

theorem enterOn_steady {s : State} {i : Nat} {how : OnWatch} {e : Bool} (h : I.Holds s) :
    I.Holds (s.enterOn i how e) := by
  unfold State.enterOn; split
  · rename_i l hl
    have h1 : I.Holds (s.setLoad i (Load.inOn l how e s.now)) := setLoad_steady h hl id
    dsimp only
    split <;> split <;> first
      | exact latch_steady (notice_steady h1)
      | exact latch_steady h1
      | exact notice_steady h1
      | exact h1
  · exact h

theorem moveTo_steady {s : State} {i : Nat} {st : LoadState} (h : I.Holds s) : I.Holds (s.moveTo i st) := by
  unfold State.moveTo; split
  · rename_i l hl
    have h1 : I.Holds (s.setLoad i (Load.inState l st)) := setLoad_steady h hl id
    dsimp only
    split
    · exact latch_steady h1
    · exact h1
  · exact h

theorem goDark_steady {s : State} {i : Nat} (h : I.Holds s) : I.Holds (s.goDark i) :=
  notice_steady (moveTo_steady h)

theorem restOpen_steady {s : State} {i : Nat} (h : I.Holds s) : I.Holds (s.restOpen i) :=
  unshedLoad_steady (withdrawAll_steady h)

theorem judgeStart_steady {s : State} {i : Nat} (h : I.Holds s) : I.Holds (s.judgeStart i) := by
  unfold State.judgeStart; dsimp only
  repeat' split
  all_goals first
    | exact enterOn_steady h
    | exact goDark_steady h
    | exact moveTo_steady h
    | exact h

theorem startOutlet_steady {s : State} {i : Nat} {c : QueueCause} {n : Nat} (h : I.Holds s) :
    I.Holds (s.startOutlet i c n) := by
  unfold State.startOutlet; dsimp only
  split
  · exact h
  · split
    · exact keeps_steady h
    · exact insertLocals_steady (keeps_steady h)

theorem raisePeers_steady {s : State} {i : Nat} (h : I.Holds s) : I.Holds (s.raisePeers i) := by
  unfold State.raisePeers; split
  · split
    · exact sendRaise_steady h
    · exact notice_steady h
  · exact h

theorem start_steady {s : State} {i : Nat} {c : QueueCause} (h : I.Holds s) : I.Holds (s.start i c) :=
  judgeStart_steady (raisePeers_steady (foldl_steady (fun _ _ hs => startOutlet_steady hs) _ _
    (unshedLoad_steady (modLoad_steady h fun _ k => k))))

theorem judgeStop_steady {s : State} {i : Nat} (h : I.Holds s) : I.Holds (s.judgeStop i) := by
  unfold State.judgeStop; split
  · exact moveTo_steady h
  · exact h

theorem openLoad_steady {s : State} {i : Nat} (h : I.Holds s) : I.Holds (s.openLoad i) :=
  openClosed_steady (clearLineLost_steady (restOpen_steady h))

theorem stop_steady {s : State} {i : Nat} (h : I.Holds s) : I.Holds (s.stop i) :=
  judgeStop_steady (dropPeers_steady (openLoad_steady (modLoad_steady (moveTo_steady h) fun _ k => k)))

theorem turnOff_steady {s : State} {i : Nat} (h : I.Holds s) : I.Holds (s.turnOff i) :=
  dropPeers_steady (openLoad_steady (modLoad_steady h fun _ k => k))

theorem quarantine_steady {s : State} {i : Nat} {r : QuarantineReason} (h : I.Holds s) :
    I.Holds (s.quarantine i r) := by
  unfold State.quarantine; split
  · have h1 : I.Holds (((s.moveTo i .quarantined).modLoad i fun l => { l with qReason := some r }).notice i
        .quarantined) := notice_steady (modLoad_steady (moveTo_steady h) fun _ k => k)
    dsimp only
    split
    · exact turnOff_steady h1
    · exact h1
  · exact h

theorem strand_steady {s : State} {i : Nat} (h : I.Holds s) : I.Holds (s.strand i) :=
  notice_steady (moveTo_steady h)

/-! ### Cycles -/

theorem modCycle_steady {s : State} {i : Nat} {f : Context → Context} (h : I.Holds s) :
    I.Holds (s.modCycle i f) := by
  unfold State.modCycle; split
  · split
    · exact setContext_steady h
    · exact h
  · exact h

theorem dropContext_steady {s : State} {i : Nat} (h : I.Holds s) : I.Holds (s.dropContext i) := by
  unfold State.dropContext; dsimp only
  split
  · exact modLoad_steady (setContext_steady h) fun _ k => k
  · exact modLoad_steady h fun _ k => k

theorem judgeOpening_steady {s : State} {i : Nat} (h : I.Holds s) : I.Holds (s.judgeOpening i) := by
  unfold State.judgeOpening; split
  · split
    · exact modCycle_steady h
    · exact h
  · exact h

theorem cycleDrop_steady {s : State} {i : Nat} (h : I.Holds s) : I.Holds (s.cycleDrop i) := by
  unfold State.cycleDrop; split
  · split
    · exact h
    · exact modCycle_steady (sendDrop_steady h)
  · exact h

theorem openingStart_steady {s : State} {k i : Nat} {c : Cause} (h : I.Holds s) :
    I.Holds (s.openingStart k i c) :=
  judgeOpening_steady (cycleDrop_steady (modCycle_steady (openLoad_steady (setContext_steady h))))

theorem passOnTo_steady : ∀ (ws : List Waiter) (s : State), I.Holds s → I.Holds (s.passOnTo ws)
  | [], _, h => h
  | w :: ws, s, h => by
    have hw : I.Holds { s with waitList := ws } := waitList_steady h
    unfold State.passOnTo; split
    · exact h
    · dsimp only
      split
      · exact passOnTo_steady ws _ (quarantine_steady (latch_steady hw))
      · split
        · exact passOnTo_steady ws _ (strand_steady (latch_steady hw))
        · exact openingStart_steady hw

theorem passOn_steady {s : State} (h : I.Holds s) : I.Holds s.passOn := passOnTo_steady _ _ h
theorem freeCycle_steady {s : State} {i : Nat} (h : I.Holds s) : I.Holds (s.freeCycle i) :=
  passOn_steady (dropContext_steady h)

theorem enterCycling_steady {s : State} {i : Nat} {c : Cause} (h : I.Holds s) : I.Holds (s.enterCycling i c) := by
  unfold State.enterCycling; dsimp only; split
  · exact openingStart_steady (moveTo_steady h)
  · exact waitList_steady (moveTo_steady h)

theorem writeOutcome_steady {s : State} {i : Nat} {o : CycleOutcome} {c : Cause} (h : I.Holds s) :
    I.Holds (s.writeOutcome i o c) := by
  have h1 := modLoad_steady (i := i) (f := fun l => { l with lastOutcome := some { outcome := o, cause := c } }) h
    fun _ k => k
  unfold State.writeOutcome; dsimp only; split
  · exact notice_steady h1
  · exact h1

theorem judgeClosing_steady {s : State} {i : Nat} (h : I.Holds s) : I.Holds (s.judgeClosing i) := by
  unfold State.judgeClosing; split
  · split
    · exact enterOn_steady (freeCycle_steady (writeOutcome_steady h))
    · exact h
  · exact h

theorem markLineLost_steady {s : State} {ns : List Nat} (h : I.Holds s) : I.Holds (s.markLineLost ns) :=
  foldl_steady (fun _ _ hs => keeps_steady hs) _ _ h

theorem placeAbandoned_steady {s : State} {i : Nat} (h : I.Holds s) : I.Holds (s.placeAbandoned i) := by
  unfold State.placeAbandoned; dsimp only; split
  · exact goDark_steady h
  · exact insertLocals_steady (enterOn_steady h)

theorem abandonLineLoss_steady {s : State} {i : Nat} (h : I.Holds s) : I.Holds (s.abandonLineLoss i) := by
  unfold State.abandonLineLoss; split
  · have h1 : I.Holds (s.markLineLost ((s.localsOf i).filter s.openOnLost)) := markLineLost_steady h
    dsimp only
    split
    · exact placeAbandoned_steady (freeCycle_steady (writeOutcome_steady (sendRaise_steady h1)))
    · exact placeAbandoned_steady (freeCycle_steady (writeOutcome_steady h1))
  · exact h

theorem closingPeer_steady {s : State} {i : Nat} (h : I.Holds s) : I.Holds (s.closingPeer i) := by
  unfold State.closingPeer; split
  · split
    · exact h
    · split
      · exact modCycle_steady (sendRaise_steady h)
      · exact modCycle_steady h
  · exact h

theorem closingStart_steady {s : State} {i : Nat} (h : I.Holds s) : I.Holds (s.closingStart i) := by
  unfold State.closingStart; dsimp only; split
  · exact abandonLineLoss_steady h
  · exact judgeClosing_steady (closingPeer_steady (insertLocals_steady (modCycle_steady h)))

theorem cycleFault_steady {s : State} {i : Nat} (h : I.Holds s) : I.Holds (s.cycleFault i) :=
  closingStart_steady (modCycle_steady h)
theorem settleClosing_steady {s : State} {i n : Nat} (h : I.Holds s) : I.Holds (s.settleClosing i n) :=
  judgeClosing_steady (modCycle_steady h)
theorem dropFailed_steady {s : State} {i : Nat} {r : CycleReason} (h : I.Holds s) : I.Holds (s.dropFailed i r) :=
  closingStart_steady (modCycle_steady h)
theorem raiseFailedBy_steady {s : State} {i : Nat} {r : CycleReason} (h : I.Holds s) :
    I.Holds (s.raiseFailedBy i r) := judgeClosing_steady (modCycle_steady h)
theorem raiseAnswered_steady {s : State} {i : Nat} (h : I.Holds s) : I.Holds (s.raiseAnswered i) :=
  judgeClosing_steady (modCycle_steady h)
theorem dropAnswered_steady {s : State} {i : Nat} (h : I.Holds s) : I.Holds (s.dropAnswered i) :=
  judgeOpening_steady (modCycle_steady h)
theorem cancelCycle_steady {s : State} {i : Nat} (h : I.Holds s) : I.Holds (s.cancelCycle i) :=
  closingStart_steady (modCycle_steady h)
theorem leaveWaiting_steady {s : State} {i : Nat} (h : I.Holds s) : I.Holds (s.leaveWaiting i) :=
  waitList_steady h

theorem abandonPowerOff_steady {s : State} {i : Nat} (h : I.Holds s) : I.Holds (s.abandonPowerOff i) := by
  unfold State.abandonPowerOff; split
  · exact freeCycle_steady (writeOutcome_steady h)
  · exact leaveWaiting_steady (writeOutcome_steady h)

theorem confirmHang_steady {s : State} {i : Nat} {c : Cause} (h : I.Holds s) : I.Holds (s.confirmHang i c) := by
  unfold State.confirmHang; split
  · rename_i l hl
    have h1 : I.Holds (s.notice i .hang) := notice_steady h
    dsimp only
    split
    · exact modLoad_steady h1 fun _ k => k
    · have h2 : I.Holds ((s.notice i .hang).modLoad i fun l' =>
          { l' with strikes := min l.cyclePolicy.threshold (l.strikes + 1), postCycleBoot := false }) := by
        have hn : (s.notice i .hang).load i = some { l with notices := addNotice l.notices .hang } ∨
            (s.notice i .hang).load i = none := by
          unfold State.notice; rw [hl]
          simp only [State.load, State.slot, State.raiseFlag, State.setLoad, State.setSlot, vset, vget]
          by_cases hi : i < 40
          · left; simp [hi]
          · right; simp [hi, Slot.empty]
        unfold State.modLoad
        rcases hn with hn | hn <;> rw [hn]
        · refine setLoad_steady h1 hn fun _ => ?_
          simp only [Load.strikesKept, decide_eq_true_eq]
          exact Nat.min_le_left _ _
        · exact h1
      repeat' split
      all_goals first
        | exact quarantine_steady h2
        | exact modLoad_steady h2 fun _ k => k
        | exact strand_steady h2
        | exact enterCycling_steady h2
  · exact h

end Laws

end Sys2Proof.Machine
end

