-- ==== Sys2Proof/Laws/SteadyUnits.lean ====
section
/-! SUPPORT. The operations of the partner role, of owners, gates, line loss, guard and watches keep every `Inv`
(continued from Steady.lean). Operations that also change the capture, the figures or the lines say which further
updates they need. -/

namespace Sys2Proof.Machine

/-- The property does not read the first-fault capture. -/
def Inv.PassesCapture (I : Inv) : Prop := ∀ s c m, I.Holds s → I.Holds { s with capture := c, more := m }
/-- The property does not read the records of the phases. -/
def Inv.PassesLines (I : Inv) : Prop := ∀ s v, I.Holds s → I.Holds { s with lines := v }
/-- The property does not read the running window. -/
def Inv.PassesMeter (I : Inv) : Prop := ∀ s v, I.Holds s → I.Holds { s with meter := v }
/-- The property does not read the figures and the energy of outlets. -/
def Inv.PassesFigures (I : Inv) : Prop :=
  ∀ s n (o : Outlet), I.Holds s → o.weight ≤ (s.outlet n).weight →
    ((s.outlet n).inRange = true → o.inRange = true) → I.Holds (s.setOutlet n o)
/-- The property does not read the patrol. -/
def Inv.PassesPatrol (I : Inv) : Prop := ∀ s v, I.Holds s → I.Holds { s with patrol := v }
/-- The property does not read the start of the drip timer. -/
def Inv.PassesDrip (I : Inv) : Prop := ∀ s v, I.Holds s → I.Holds { s with dripStart := v }
/-- The property does not read the presence state and the timers of the link. -/
def Inv.PassesLink (I : Inv) : Prop := ∀ s v, I.Holds s → I.Holds { s with link := v }

/-- The property stands a move of the port. -/
def Inv.PassesPort (I : Inv) : Prop := ∀ s p, I.Holds s → PortMove s.port p → I.Holds { s with port := p }
/-- The property does not read the settings. -/
def Inv.PassesSettings (I : Inv) : Prop := ∀ s g, I.Holds s → I.Holds (s.under g)
/-- The property does not read the image store. -/
def Inv.PassesStore (I : Inv) : Prop := ∀ s v, I.Holds s → I.Holds { s with store := v }
/-- The property does not read the flags (ATTENTION lowers them). -/
def Inv.PassesFlags (I : Inv) : Prop := ∀ s v, I.Holds s → I.Holds { s with flags := v }
/-- The property does not read what outlets count: an owner and a reservation may be given. -/
def Inv.PassesOwners (I : Inv) : Prop :=
  ∀ s n w r, I.Holds s → I.Holds (s.setOutlet n { s.outlet n with owner := w, reservation := r })
/-- The property stands a passed claim (R9). -/
def Inv.TakesClaims (I : Inv) : Prop :=
  ∀ s es own r, I.Holds s → s.claimFails es r = none → I.Holds (s.take es own)
/-- The property stands a passed exchange (R11). -/
def Inv.TakesSwaps (I : Inv) : Prop :=
  ∀ s i old new s', I.Holds s → localListOk s.rating new = true → s.exchange i old new = .ok s' → I.Holds s'

namespace Laws

variable {I : Inv}

theorem line_steady (k : I.PassesLines) {s : State} {p : Phase} {f : Line → Line} (h : I.Holds s) :
    I.Holds (s.modLine p f) := k s _ h

/-! ### Partner -/

theorem dropAnswer_steady {s : State} {t : Tag} (h : I.Holds s) : I.Holds (s.dropAnswer t) :=
  link_steady h ⟨rfl, rfl, rfl, rfl, rfl⟩
theorem putAnswer_steady {s : State} {a : PendingAnswer} (h : I.Holds s) : I.Holds (s.putAnswer a) :=
  link_steady (dropAnswer_steady h) ⟨rfl, rfl, rfl, rfl, rfl⟩
theorem sendAnswer_steady {s : State} {t : Tag} {f : LinkFrame} (h : I.Holds s) : I.Holds (s.sendAnswer t f) :=
  transmit_steady (dropAnswer_steady h)

theorem settleAnswer_steady {s : State} {a : PendingAnswer} {n : Nat} (h : I.Holds s) :
    I.Holds (s.settleAnswer a n) := by
  unfold State.settleAnswer; dsimp only; split
  · exact sendAnswer_steady h
  · exact putAnswer_steady h

theorem raiseLost_steady {s : State} {t : Tag} {n : Nat} (h : I.Holds s) : I.Holds (s.raiseLost t n) := by
  unfold State.raiseLost; split
  · split
    · exact sendAnswer_steady h
    · exact h
  · exact h

theorem lentEntryLost_steady {s : State} {n : Nat} (h : I.Holds s) : I.Holds (s.lentEntryLost n) := by
  unfold State.lentEntryLost; split
  · exact raiseLost_steady h
  · exact h

theorem answerFreed_steady {s : State} {t : Tag} {n : Nat} (h : I.Holds s) : I.Holds (s.answerFreed t n) := by
  unfold State.answerFreed; split
  · exact h
  · split
    · exact settleAnswer_steady h
    · split
      · exact sendAnswer_steady h
      · exact settleAnswer_steady h
    · split
      · exact sendAnswer_steady h
      · exact settleAnswer_steady h

/-- A freed outlet counts nothing. -/
theorem outletMove_freed {o o' : Outlet} (ho : o'.owner = .free) (hc : o'.closeTime = o.closeTime)
    (hp : o'.openTime = o.openTime) (hf : o'.faults = o.faults) (hn : o'.ops = o.ops)
    (h1 : o'.energy = o.energy) (h2 : o'.residue = o.residue) (h3 : o'.current = o.current)
    (h4 : o'.power = o.power) (h5 : o'.offset = o.offset) : OutletMove o o' := by
  refine ⟨?_, ?_, h1, h2, h3, h4, h5⟩
  · simp [Outlet.weight, Outlet.owned, Outlet.isFree, ho]
  · intro k; simpa [Outlet.inRange, hc, hp, hf, hn] using k

theorem freeOutlet_steady {s : State} {n : Nat} (h : I.Holds s) : I.Holds (s.freeOutlet n) := by
  have hl := leaveShed_steady (n := n) h
  have h1 : I.Holds ((s.leaveShed n).modOutlet n fun o =>
      { o with owner := .free, reservation := 0, releasing := false, shed := false, lineLost := false,
               dropHold := none }) :=
    setOutlet_steady hl (outletMove_freed rfl rfl rfl rfl rfl rfl rfl rfl rfl rfl)
  unfold State.freeOutlet; dsimp only; split
  · exact answerFreed_steady h1
  · exact h1

theorem releaseOutlet_steady {s : State} {n : Nat} (h : I.Holds s) : I.Holds (s.releaseOutlet n) := by
  unfold State.releaseOutlet; dsimp only; split
  · exact h
  · split
    · exact freeOutlet_steady h
    · exact openRequest_steady (keeps_steady h)

theorem releaseOutlets_steady {s : State} {ns : List Nat} (h : I.Holds s) : I.Holds (s.releaseOutlets ns) :=
  foldl_steady (fun _ _ hs => releaseOutlet_steady hs) _ _
    (foldl_steady (fun _ _ hs => lentEntryLost_steady hs) _ _ (withdrawAll_steady h))

theorem unshedLent_steady {s : State} {t : Tag} (h : I.Holds s) : I.Holds (s.unshedLent t) :=
  clearShed_steady (dropVictim_steady h)

theorem setHolds_steady {s : State} {ns : List Nat} {d : Option DropHold} (h : I.Holds s) :
    I.Holds (s.setHolds ns d) :=
  foldl_steady (fun _ _ hs => keeps_steady hs) _ _ h

/-! ### Owners -/

theorem closeEnded_steady {s : State} {n : Nat} (h : I.Holds s) : I.Holds (s.closeEnded n) := by
  unfold State.closeEnded; dsimp only; split
  · exact gateDue_steady (modGate_steady h)
  · exact h

theorem toldOpening_steady {s : State} {i n : Nat} {e : Ended} (h : I.Holds s) :
    I.Holds (s.toldOpening i n e) := by
  unfold State.toldOpening; split
  · exact judgeOpening_steady (modCycle_steady h)
  · exact cycleFault_steady h
  · exact cycleFault_steady h
  · split
    · split
      · exact cycleFault_steady h
      · exact h
    · exact h
  · exact h

theorem toldClosing_steady {s : State} {i n : Nat} {e : Ended} (h : I.Holds s) :
    I.Holds (s.toldClosing i n e) := by
  unfold State.toldClosing; dsimp only; split
  · exact settleClosing_steady h
  · exact settleClosing_steady (modCycle_steady h)
  · exact settleClosing_steady (modCycle_steady h)
  · split
    · exact settleClosing_steady (modCycle_steady h)
    · exact modCycle_steady h
  · split
    · exact settleClosing_steady (modCycle_steady h)
    · exact modCycle_steady h
  · exact h

theorem toldCycle_steady {s : State} {i n : Nat} {e : Ended} (h : I.Holds s) : I.Holds (s.toldCycle i n e) := by
  unfold State.toldCycle
  repeat' split
  all_goals first
    | exact toldOpening_steady h
    | exact cycleFault_steady h
    | exact toldClosing_steady h
    | exact h

theorem toldLoad_steady {s : State} {i n : Nat} {e : Ended} (h : I.Holds s) : I.Holds (s.toldLoad i n e) := by
  unfold State.toldLoad
  repeat' split
  all_goals first
    | exact judgeStart_steady h
    | exact judgeStop_steady h
    | exact toldCycle_steady h
    | exact h

theorem toldLent_steady {s : State} {t : Tag} {n : Nat} {e : Ended} (h : I.Holds s) :
    I.Holds (s.toldLent t n e) := by
  unfold State.toldLent
  repeat' split
  all_goals first
    | exact settleAnswer_steady h
    | exact dropAnswer_steady h
    | exact raiseLost_steady h
    | exact h

theorem told_steady {s : State} {n : Nat} {e : Ended} (h : I.Holds s) : I.Holds (s.told n e) := by
  unfold State.told; dsimp only
  repeat' split
  all_goals first
    | exact freeOutlet_steady h
    | exact toldLoad_steady h
    | exact toldLent_steady h
    | exact h

theorem reinsertRaised_steady {s : State} {n : Nat} (h : I.Holds s) : I.Holds (s.reinsertRaised n) := by
  unfold State.reinsertRaised
  repeat' split
  all_goals first
    | exact insertLent_steady (putAnswer_steady h)
    | exact h

theorem pendingAfterClose_steady {s : State} {n : Nat} (h : I.Holds s) : I.Holds (s.pendingAfterClose n) := by
  unfold State.pendingAfterClose; split
  · exact reinsertRaised_steady (startOpen_steady h)
  · exact h

theorem pendingAfterNone_steady {s : State} {n : Nat} (h : I.Holds s) : I.Holds (s.pendingAfterNone n) := by
  unfold State.pendingAfterNone; dsimp only; split
  · exact told_steady (keeps_steady h)
  · exact h

theorem failOutlet_steady {s : State} {n : Nat} (h : I.Holds s) : I.Holds (s.failOutlet n) := by
  have hw : I.Holds ((s.modOutlet n fun o => { o with service := .failed }).withdraw n) :=
    withdraw_steady (keeps_steady h)
  unfold State.failOutlet; dsimp only; split
  · exact closeEnded_steady (keeps_steady hw)
  · exact hw

theorem captureFault_steady (hc : I.PassesCapture) {s : State} {n : Nat} {k : FaultKind} (h : I.Holds s) :
    I.Holds (s.captureFault n k) := by
  unfold State.captureFault; split
  · exact hc s _ s.more h
  · exact hc s s.capture true h

/-- A fault count that goes up stops at 15. -/
theorem outletMove_fault (o : Outlet) : OutletMove o { o with faults := min 15 (o.faults + 1) } := by
  refine ⟨Nat.le_refl _, ?_, rfl, rfl, rfl, rfl, rfl⟩
  intro k
  simp only [Outlet.inRange, Bool.and_eq_true, decide_eq_true_eq] at k ⊢
  exact ⟨⟨k.1.1, Nat.min_le_left _ _⟩, k.2⟩

theorem chargeFault_steady (hc : I.PassesCapture) {s : State} {n : Nat} {k : FaultKind} (h : I.Holds s) :
    I.Holds (s.chargeFault n k) := by
  have h1 : I.Holds (s.modOutlet n fun o => { o with faults := min 15 (o.faults + 1) }) :=
    setOutlet_steady h (outletMove_fault _)
  unfold State.chargeFault; dsimp only
  have h2 : I.Holds (if s.faultFails n then
      (s.modOutlet n fun o => { o with faults := min 15 (o.faults + 1) }).failOutlet n
      else s.modOutlet n fun o => { o with faults := min 15 (o.faults + 1) }) := by
    split
    · exact failOutlet_steady h1
    · exact h1
  split
  · exact notice_steady (raiseFlag_steady (captureFault_steady hc h2))
  · exact raiseFlag_steady (captureFault_steady hc h2)

theorem faultTold_steady (hc : I.PassesCapture) {s : State} {n : Nat} {k : FaultKind} {e : Ended}
    (h : I.Holds s) : I.Holds (s.faultTold n k e) := by
  have h1 := told_steady (n := n) (e := e) (chargeFault_steady (n := n) (k := k) hc h)
  unfold State.faultTold; dsimp only
  split <;> split <;> first
    | exact pendingAfterNone_steady (told_steady h1)
    | exact pendingAfterNone_steady h1
    | exact told_steady h1
    | exact h1

/-! ### Gates -/

theorem closeRequest_steady {s : State} {n : Nat} (h : I.Holds s) : I.Holds (s.closeRequest n) := by
  unfold State.closeRequest; split
  · exact startClose_steady h
  · exact told_steady (closeEnded_steady h)

theorem grant_steady {s : State} {b : Nat} {e : Entry} (h : I.Holds s) : I.Holds (s.grant b e) :=
  closeRequest_steady (modGate_steady (dequeue_steady h))

theorem setReason_steady {s : State} {b : Nat} (h : I.Holds s) : I.Holds (s.setReason b) := by
  unfold State.setReason; exact modGate_steady h

theorem judgeGate_steady {s : State} {b : Nat} (h : I.Holds s) : I.Holds (s.judgeGate b) := by
  unfold State.judgeGate
  repeat' split
  all_goals first
    | exact setReason_steady (grant_steady h)
    | exact setReason_steady h

theorem setGuardState_steady {s : State} {b : Nat} {g : GuardState} (h : I.Holds s) :
    I.Holds (s.setGuardState b g) := by
  unfold State.setGuardState; split
  · exact h
  · exact gateDue_steady (modGuard_steady h)

theorem judgeReturn_steady {s : State} {b : Nat} (h : I.Holds s) : I.Holds (s.judgeReturn b) := by
  unfold State.judgeReturn; dsimp only; split
  · exact setGuardState_steady h
  · exact h

theorem judgeHold_steady {s : State} {b : Nat} (h : I.Holds s) : I.Holds (s.judgeHold b) := by
  unfold State.judgeHold; dsimp only; split
  · exact setGuardState_steady h
  · exact h

theorem flush_steady {s : State} (h : I.Holds s) : I.Holds s.flush := by
  unfold State.flush; dsimp only
  refine work_steady (foldl_steady (fun _ _ hs => judgeReturn_steady hs) _ _
    (foldl_steady (fun s b hs => ?_) _ _ (foldl_steady (fun _ _ hs => judgeReturn_steady hs) _ _
      (foldl_steady (fun _ _ hs => judgeHold_steady hs) _ _ h))))
  split
  · exact judgeGate_steady hs
  · exact hs

theorem finish_steady {s : State} (h : I.Holds s) : I.Holds s.finish := judgeLine_steady (flush_steady h)

/-! ### Line loss, return, adoption -/

theorem driveLost_steady {s : State} {n : Nat} (h : I.Holds s) : I.Holds (s.driveLost n) := by
  unfold State.driveLost; dsimp only; split
  · exact told_steady (closeEnded_steady (keeps_steady h))
  · exact keeps_steady h

theorem guardLost_steady {s : State} {b : Nat} (h : I.Holds s) : I.Holds (s.guardLost b) :=
  modGuard_steady (setGuardState_steady h)

theorem placeLost_steady {s : State} {i : Nat} (h : I.Holds s) : I.Holds (s.placeLost i) := by
  unfold State.placeLost; dsimp only; split
  · exact goDark_steady h
  · exact judgeStart_steady h

theorem lineLossRelease_steady {s : State} {p : Phase} (h : I.Holds s) : I.Holds (s.lineLossRelease p) :=
  foldl_steady (fun _ _ hs => guardLost_steady hs) _ _ (foldl_steady (fun _ _ hs => placeLost_steady hs) _ _
    (foldl_steady (fun _ _ hs => abandonLineLoss_steady hs) _ _ (markLineLost_steady
      (foldl_steady (fun _ _ hs => lentEntryLost_steady hs) _ _ (withdrawAll_steady
        (foldl_steady (fun _ _ hs => driveLost_steady hs) _ _ h))))))

theorem phaseLoss_steady (kl : I.PassesLines) {s : State} {p : Phase} (h : I.Holds s) : I.Holds (s.phaseLoss p) :=
  lineLossRelease_steady (senseAll_steady (raiseFlag_steady (line_steady kl h)))

theorem returnLocal_steady {s : State} {i n : Nat} (h : I.Holds s) : I.Holds (s.returnLocal i n) := by
  unfold State.returnLocal
  repeat' split
  all_goals first
    | exact start_steady h
    | exact insertLocals_steady (clearLineLost_steady h)
    | exact clearLineLost_steady h
    | exact h

theorem returnLent_steady {s : State} {n : Nat} (h : I.Holds s) : I.Holds (s.returnLent n) := by
  unfold State.returnLent
  repeat' split
  all_goals first
    | exact insertLent_steady (clearLineLost_steady h)
    | exact clearLineLost_steady h
    | exact h

theorem lineReturn_steady {s : State} {p : Phase} (h : I.Holds s) : I.Holds (s.lineReturn p) :=
  foldl_steady (fun _ _ hs => returnLent_steady hs) _ _
    (foldl_steady (fun _ _ hs => foldl_steady (fun _ _ hs => returnLocal_steady hs) _ _ hs) _ _ h)

theorem phaseReturn_steady (kl : I.PassesLines) {s : State} {p : Phase} (h : I.Holds s) :
    I.Holds (s.phaseReturn p) :=
  lineReturn_steady (senseAll_steady (raiseFlag_steady (line_steady kl h)))

theorem adoptUp_steady {s : State} {n : Nat} (h : I.Holds s) : I.Holds (s.adoptUp n) := by
  unfold State.adoptUp; dsimp only
  have h1 : I.Holds (s.setOutlet n { s.outlet n with adopted := true }) := keeps_steady h
  repeat' split
  all_goals first
    | exact openRequest_steady h1
    | exact keeps_steady h1
    | exact h1
    | exact h

theorem adoptLost_steady {s : State} {n : Nat} (h : I.Holds s) : I.Holds (s.adoptLost n) := by
  unfold State.adoptLost; dsimp only; split
  · exact h
  · exact keeps_steady h

theorem startUp_steady {s : State} {i : Nat} (h : I.Holds s) : I.Holds (s.startUp i) :=
  judgeStart_steady (insertLocals_steady (modLoad_steady (moveTo_steady h) fun _ k => k))

theorem decideLoad_steady {s : State} {i : Nat} (h : I.Holds s) : I.Holds (s.decideLoad i) := by
  have h1 : I.Holds (s.modLoad i fun l => { l with awaiting := false }) := modLoad_steady h fun _ k => k
  unfold State.decideLoad
  generalize s.modLoad i (fun l => { l with awaiting := false }) = s1 at h1
  dsimp only
  split
  · split
    · exact enterOn_steady (modLoad_steady h1 fun _ k => k)
    · split
      · exact startUp_steady h1
      · split
        · split
          · exact goDark_steady (modLoad_steady h1 fun _ k => k)
          · exact startUp_steady h1
        · exact clearLineLost_steady (modLoad_steady (moveTo_steady h1) fun _ k => k)
  · exact h1

theorem decideAll_steady {s : State} (h : I.Holds s) : I.Holds s.decideAll := by
  refine foldl_steady (fun s i hs => ?_) _ _ h
  repeat' split
  all_goals first
    | exact decideLoad_steady hs
    | exact hs

theorem firstUp_steady (kl : I.PassesLines) {s : State} {p : Phase} (h : I.Holds s) : I.Holds (s.firstUp p) :=
  decideAll_steady (foldl_steady (fun _ _ hs => adoptUp_steady hs) _ _ (senseAll_steady (line_steady kl h)))

theorem firstLost_steady (kl : I.PassesLines) {s : State} {p : Phase} (h : I.Holds s) :
    I.Holds (s.firstLost p) :=
  decideAll_steady (foldl_steady (fun _ _ hs => adoptLost_steady hs) _ _ (phaseLoss_steady kl h))

/-! ### Branch Guard -/

theorem shedOutlets_steady {s : State} {p : ShedPlace} {v : Victim} {k : ShedKind} {ns : List Nat}
    (h : I.Holds s) : I.Holds (s.shedOutlets p v k ns) :=
  markShed_steady (openClosed_steady (withdrawAll_steady h))
theorem shedLoad_steady {s : State} {i : Nat} {p : ShedPlace} (h : I.Holds s) : I.Holds (s.shedLoad i p) :=
  notice_steady (moveTo_steady (shedOutlets_steady h))
theorem shedCord_steady {s : State} {i : Nat} {p : ShedPlace} {ns : List Nat} (h : I.Holds s) :
    I.Holds (s.shedCord i p ns) := judgeStart_steady (notice_steady (shedOutlets_steady h))
theorem shedLent_steady {s : State} {t : Tag} {p : ShedPlace} (h : I.Holds s) : I.Holds (s.shedLent t p) :=
  foldl_steady (fun _ _ hs => lentEntryLost_steady hs) _ _ (shedOutlets_steady h)

theorem shedVictim_steady {s : State} {b : Nat} {c : Candidate} (h : I.Holds s) : I.Holds (s.shedVictim b c) := by
  unfold State.shedVictim
  repeat' split
  all_goals first
    | exact shedLent_steady h
    | exact shedCord_steady h
    | exact shedLoad_steady h

theorem shedStep_steady {s : State} {b : Nat} (h : I.Holds s) : I.Holds (s.shedStep b) := by
  unfold State.shedStep; split
  · exact modGuard_steady (shedVictim_steady h)
  · exact modGuard_steady h

theorem restoreOutlet_steady {s : State} {v : Victim} {n : Nat} (h : I.Holds s) :
    I.Holds (s.restoreOutlet v n) := by
  unfold State.restoreOutlet; dsimp only; split
  · exact insertLocals_steady (leaveShed_steady h)
  · exact insertLent_steady (leaveShed_steady h)

theorem restoreEntry_steady {s : State} {m : RestoreMode} {e : ShedEntry} (h : I.Holds s) :
    I.Holds (s.restoreEntry m e) := by
  unfold State.restoreEntry
  repeat' split
  all_goals first
    | exact start_steady h
    | exact foldl_steady (fun _ _ hs => restoreOutlet_steady hs) _ _ h
    | exact h

theorem restoreBranch_steady {s : State} {b : Nat} (h : I.Holds s) : I.Holds (s.restoreBranch b) := by
  unfold State.restoreBranch
  exact modGuard_steady (setGuardState_steady (foldl_steady (fun _ _ hs => restoreEntry_steady hs) _ _ h))

theorem judgeRestore_steady {s : State} {b : Nat} (h : I.Holds s) : I.Holds (s.judgeRestore b) := by
  unfold State.judgeRestore; dsimp only
  repeat' split
  all_goals first
    | exact restoreBranch_steady h
    | exact modGuard_steady h
    | exact h

theorem trip_steady {s : State} {b : Nat} (h : I.Holds s) : I.Holds (s.trip b) :=
  shedStep_steady (raiseFlag_steady (modGuard_steady (setGuardState_steady h)))

theorem settle_steady {s : State} {b : Nat} (h : I.Holds s) : I.Holds (s.settle b) := by
  unfold State.settle; split
  · exact shedStep_steady h
  · exact modGuard_steady (setGuardState_steady h)

theorem settleCount_steady {s : State} {b : Nat} (h : I.Holds s) : I.Holds (s.settleCount b) := by
  unfold State.settleCount
  repeat' split
  all_goals first
    | exact settle_steady h
    | exact modGuard_steady h

theorem overCount_steady {s : State} {b : Nat} (h : I.Holds s) : I.Holds (s.overCount b) := by
  unfold State.overCount
  repeat' split
  all_goals first
    | exact trip_steady h
    | exact judgeRestore_steady (modGuard_steady h)

theorem guardBranch_steady {s : State} {b : Nat} (h : I.Holds s) : I.Holds (s.guardBranch b) := by
  unfold State.guardBranch; split
  · exact settleCount_steady h
  · exact overCount_steady h

theorem extTakeLoad_steady {s : State} {c i : Nat} (h : I.Holds s) : I.Holds (s.extTakeLoad c i) := by
  unfold State.extTakeLoad
  repeat' split
  all_goals first
    | exact shedCord_steady h
    | exact shedLoad_steady h
    | exact h

theorem extShed_steady {s : State} (h : I.Holds s) : I.Holds s.extShed := by
  unfold State.extShed; split
  · exact foldl_steady (fun _ _ hs => shedLent_steady hs) _ _
      (foldl_steady (fun _ _ hs => extTakeLoad_steady hs) _ _ h)
  · exact h

theorem extAssert_steady {s : State} (h : I.Holds s) : I.Holds s.extAssert := by
  unfold State.extAssert; split
  · exact h
  · exact extShed_steady (raiseFlag_steady (ext_steady h))

theorem extDeassert_steady {s : State} (h : I.Holds s) : I.Holds s.extDeassert := by
  unfold State.extDeassert; split
  · exact foldl_steady (fun _ _ hs => restoreEntry_steady hs) _ _ (ext_steady h)
  · exact h

theorem guardWindow_steady {s : State} (h : I.Holds s) : I.Holds s.guardWindow := by
  have h1 : I.Holds (s.branchesInUse.foldl State.guardBranch s) :=
    foldl_steady (fun _ _ hs => guardBranch_steady hs) _ _ h
  unfold State.guardWindow; dsimp only; split
  · exact extShed_steady h1
  · exact h1

/-! ### Watches -/

theorem latchBoot_steady {s : State} {i : Nat} (h : I.Holds s) : I.Holds (s.latchBoot i) := by
  unfold State.latchBoot
  repeat' split
  all_goals first
    | exact latch_steady h
    | exact h

theorem beatOn_steady {s : State} {i : Nat} {l : Load} (h : I.Holds s) : I.Holds (s.beatOn i l) := by
  unfold State.beatOn; split
  · exact h
  · exact modLoad_steady (latchBoot_steady h) fun _ k => k
  · exact modLoad_steady h fun _ k => k
  · exact modLoad_steady h fun _ k => k
  · exact modLoad_steady h fun _ k => k

theorem beat_steady {s : State} {i : Nat} (h : I.Holds s) : I.Holds (s.beat i) := by
  unfold State.beat
  repeat' split
  all_goals first
    | exact beatOn_steady h
    | exact enterOn_steady (leaveWaiting_steady h)
    | exact enterOn_steady h
    | exact h

theorem beats_steady : ∀ (ts : List Tag) (s : State), I.Holds s → I.Holds (s.beats ts).1
  | [], _, h => h
  | t :: ts, s, h => by
    unfold State.beats; split
    · exact beats_steady ts _ (beat_steady h)
    · exact beats_steady ts _ h

theorem bootExpiry_steady {s : State} {i : Nat} (h : I.Holds s) : I.Holds (s.bootExpiry i) := by
  have h1 := latchBoot_steady (i := i) h
  unfold State.bootExpiry; dsimp only
  repeat' split
  all_goals first
    | exact confirmHang_steady h1
    | exact modLoad_steady h1 fun _ k => k
    | exact h1
    | exact h

theorem beatExpiry_steady {s : State} {i : Nat} (h : I.Holds s) : I.Holds (s.beatExpiry i) := by
  unfold State.beatExpiry; split
  · refine modLoad_steady h fun l k => ?_
    split <;> exact k
  · exact h

theorem confirmExpiry_steady {s : State} {i : Nat} (h : I.Holds s) : I.Holds (s.confirmExpiry i) := by
  unfold State.confirmExpiry
  repeat' split
  all_goals first
    | exact confirmHang_steady h
    | exact modLoad_steady h fun _ k => k
    | exact h

theorem watchLoad_steady {s : State} {i : Nat} (h : I.Holds s) : I.Holds (s.watchLoad i) := by
  unfold State.watchLoad; dsimp only
  split
  · rename_i l hl
    repeat' split
    all_goals first
      | exact confirmHang_steady (setLoad_steady h hl id)
      | exact setLoad_steady h hl id
      | exact h
  · exact h

theorem watchWindow_steady {s : State} (h : I.Holds s) : I.Holds s.watchWindow :=
  foldl_steady (fun _ _ hs => watchLoad_steady hs) _ _ h

/-- A fault count that the drip takes down stays in its range. -/
theorem outletMove_drip (o : Outlet) : OutletMove o { o with faults := o.faults - 1 } := by
  refine ⟨Nat.le_refl _, ?_, rfl, rfl, rfl, rfl, rfl⟩
  intro k
  simp only [Outlet.inRange, Bool.and_eq_true, decide_eq_true_eq] at k ⊢
  exact ⟨⟨k.1.1, Nat.le_trans (Nat.sub_le _ _) k.1.2⟩, k.2⟩

theorem drip_steady (kd : I.PassesDrip) {s : State} (h : I.Holds s) : I.Holds s.drip := by
  unfold State.drip; dsimp only
  refine kd _ _ (foldl_steady (fun s n hs => setOutlet_steady hs (outletMove_drip _)) _ _
    (foldl_steady (fun s i hs => modLoad_steady hs fun l k => ?_) _ _ h))
  unfold Load.dripped; split
  · exact k
  · simp only [Load.strikesKept, decide_eq_true_eq] at k ⊢
    exact Nat.le_trans (Nat.sub_le _ _) k

/-! ### Relays -/

theorem outletMove_driven (o : Outlet) (now : Nat) : OutletMove o (Outlet.issueDrive o now) :=
  outletMove_of rfl rfl rfl rfl rfl rfl rfl rfl rfl rfl rfl

theorem closeDrive_steady {s : State} {n : Nat} (h : I.Holds s) : I.Holds (s.closeDrive n) := by
  unfold State.closeDrive; split
  · exact modGate_steady (setOutlet_steady h (outletMove_driven _ _))
  · exact h

theorem openDrive_steady {s : State} {n : Nat} (h : I.Holds s) : I.Holds (s.openDrive n) := by
  unfold State.openDrive; split
  · exact setOutlet_steady h (outletMove_driven _ _)
  · exact h

/-- A learned time stays in 2 to 20 ms (R139). -/
theorem learn_inRange {a m : Nat} (h : within 2 20 a = true) : within 2 20 (learn a m) = true := by
  simp only [within, Bool.and_eq_true, decide_eq_true_eq] at h ⊢
  unfold learn
  split
  · split <;> omega
  · exact h

/-- An operation's end with a time learned and the operation counted. -/
theorem outletMove_ended (o : Outlet) {c p : Nat} (hc : within 2 20 o.closeTime = true → within 2 20 c = true)
    (hp : within 2 20 o.openTime = true → within 2 20 p = true) :
    OutletMove o { Outlet.counted (Outlet.ended o) with closeTime := c, openTime := p } := by
  refine ⟨Nat.le_refl _, ?_, rfl, rfl, rfl, rfl, rfl⟩
  intro k
  simp only [Outlet.inRange, Outlet.counted, Outlet.ended, Bool.and_eq_true, decide_eq_true_eq] at k ⊢
  exact ⟨⟨⟨hc k.1.1.1, hp k.1.1.2⟩, decide_eq_true k.1.2⟩, decide_eq_true (Nat.min_le_left _ _)⟩

theorem closedFields_steady {s : State} {n d : Nat} (h : I.Holds s) : I.Holds (s.closedFields n d) := by
  unfold State.closedFields; dsimp only
  refine judgeWear_steady (setOutlet_steady h (outletMove_ended (s.outlet n) (p := (s.outlet n).openTime)
    (fun k => ?_) id))
  split
  · exact learn_inRange k
  · exact k

theorem openedFields_steady {s : State} {n d : Nat} (h : I.Holds s) : I.Holds (s.openedFields n d) := by
  unfold State.openedFields; dsimp only
  refine judgeWear_steady (setOutlet_steady h (outletMove_ended (s.outlet n) (c := (s.outlet n).closeTime)
    id (fun k => ?_)))
  split
  · exact learn_inRange k
  · exact k

theorem confirmClose_steady {s : State} {n d : Nat} (h : I.Holds s) : I.Holds (s.confirmClose n d) :=
  pendingAfterClose_steady (told_steady (closedLeavesShed_steady (closeEnded_steady (closedFields_steady h))))

theorem closeSensed_steady {s : State} {n v : Nat} (h : I.Holds s) : I.Holds (s.closeSensed n v) := by
  have h1 := sense_steady (n := n) (v := v) h
  unfold State.closeSensed; dsimp only
  repeat' split
  all_goals first
    | exact confirmClose_steady h1
    | exact h1

theorem noClose_steady (hc : I.PassesCapture) {s : State} {n : Nat} (h : I.Holds s) : I.Holds (s.noClose n) := by
  refine pendingAfterNone_steady (faultTold_steady hc (closeEnded_steady (setOutlet_steady h ?_)))
  exact outletMove_of rfl rfl rfl rfl rfl rfl rfl rfl rfl rfl rfl

theorem closeWindowEnd_steady (hc : I.PassesCapture) {s : State} {n : Nat} (h : I.Holds s) :
    I.Holds (s.closeWindowEnd n) := by
  unfold State.closeWindowEnd; split
  · split
    · split
      · exact confirmClose_steady h
      · exact noClose_steady hc h
    · exact h
  · exact h

theorem headEnded_steady {s : State} {n : Nat} (h : I.Holds s) : I.Holds (s.headEnded n) := by
  unfold State.headEnded
  repeat' split
  all_goals first
    | exact gateDue_steady h
    | exact h

theorem confirmOpen_steady {s : State} {n d : Nat} (h : I.Holds s) : I.Holds (s.confirmOpen n d) :=
  told_steady (headEnded_steady (openedFields_steady h))

theorem openSensed_steady {s : State} {n v c : Nat} (h : I.Holds s) : I.Holds (s.openSensed n v c) := by
  have h1 := sense_steady (n := n) (v := v) h
  unfold State.openSensed; dsimp only
  repeat' split
  all_goals first
    | exact confirmOpen_steady h1
    | exact h1

theorem weld_steady (hc : I.PassesCapture) {s : State} {n : Nat} (h : I.Holds s) : I.Holds (s.weld n) :=
  faultTold_steady hc (headEnded_steady (setOutlet_steady h
    (outletMove_of rfl rfl rfl rfl rfl rfl rfl rfl rfl rfl rfl)))

theorem openWindowEnd_steady (hc : I.PassesCapture) {s : State} {n : Nat} (h : I.Holds s) :
    I.Holds (s.openWindowEnd n) := by
  unfold State.openWindowEnd; split
  · split
    · exact weld_steady hc h
    · exact h
  · exact h

theorem examine_steady {s : State} {n : Nat} (h : I.Holds s) : I.Holds (s.examine n) := by
  unfold State.examine
  repeat' split
  all_goals first
    | exact keeps_steady h
    | exact h

theorem patrolAdvance_steady (kp : I.PassesPatrol) {s : State} (h : I.Holds s) : I.Holds s.patrolAdvance := by
  unfold State.patrolAdvance; dsimp only; split
  · exact examine_steady (kp s _ h)
  · exact h

theorem judgeRecheck_steady (hc : I.PassesCapture) {s : State} {n : Nat} (h : I.Holds s) :
    I.Holds (s.judgeRecheck n) := by
  unfold State.judgeRecheck
  repeat' split
  all_goals first
    | exact faultTold_steady hc (keeps_steady h)
    | exact keeps_steady h
    | exact h

theorem recheckWindow_steady (hc : I.PassesCapture) {s : State} (h : I.Holds s) : I.Holds s.recheckWindow :=
  foldl_steady (fun _ _ hs => judgeRecheck_steady hc hs) _ _ h

/-! ### Windows and phases -/

theorem formOutlet_steady (kf : I.PassesFigures) {s : State} {r : WindowReading} {l n : Nat} (h : I.Holds s) :
    I.Holds (s.formOutlet r l n) := kf _ _ _ h (Nat.le_refl _) id

theorem formWindow_steady (kf : I.PassesFigures) (kl : I.PassesLines) (km : I.PassesMeter) {s : State}
    {r : WindowReading} (h : I.Holds s) : I.Holds (s.formWindow r) := by
  have hb : ∀ (s : State) (b : Nat), I.Holds s → I.Holds (s.formBranch b) := fun s b hs => km s _ hs
  have hp : ∀ (s : State) (p : Phase), I.Holds s → I.Holds (s.formPhase r p) := fun s p hs => kl s _ hs
  unfold State.formWindow; dsimp only
  exact km _ _ (foldl_steady hp _ _ (foldl_steady hb _ _
    (foldl_steady (fun _ _ hs => formOutlet_steady kf hs) _ _ h)))

theorem queueWindow_steady {s : State} (h : I.Holds s) : I.Holds s.queueWindow :=
  flush_steady (foldl_steady (fun _ _ hs => gateDue_steady hs) _ _ h)

theorem takeWindow_steady (hc : I.PassesCapture) {s : State} {k : WindowTaker} (h : I.Holds s) :
    I.Holds (s.takeWindow k) := by
  cases k
  · exact watchWindow_steady h
  · exact queueWindow_steady h
  · exact recheckWindow_steady hc h
  · exact guardWindow_steady h

theorem windowEnd_steady (hc : I.PassesCapture) (kf : I.PassesFigures) (kl : I.PassesLines) (km : I.PassesMeter)
    {s : State} {r : WindowReading} (h : I.Holds s) : I.Holds (s.windowEnd r) := by
  unfold State.windowEnd; split
  · exact foldl_steady (fun _ _ hs => takeWindow_steady hc hs) _ _ (formWindow_steady kf kl km h)
  · exact h

theorem spacingExpiry_steady {s : State} {b : Nat} (h : I.Holds s) : I.Holds (s.spacingExpiry b) := by
  unfold State.spacingExpiry; split
  · exact gateDue_steady h
  · exact h

theorem followLock_steady (km : I.PassesMeter) {s : State} (h : I.Holds s) : I.Holds s.followLock := km _ _ h
theorem countCrossing_steady (km : I.PassesMeter) {s : State} {p : Phase} (h : I.Holds s) :
    I.Holds (s.countCrossing p) := by
  unfold State.countCrossing; split
  · exact km _ _ h
  · exact h

theorem crossing_steady (kl : I.PassesLines) (km : I.PassesMeter) {s : State} {p : Phase} {r k : Nat}
    (h : I.Holds s) : I.Holds (s.crossing p r k) := by
  have h1 : I.Holds (((s.modLine p fun l => l.cross s.now r s.settings.nominal).countCrossing p).followLock) :=
    followLock_steady km (countCrossing_steady km (line_steady kl h))
  unfold State.crossing; dsimp only; split
  · exact phaseLoss_steady kl h1
  · exact h1

theorem halfTimeout_steady (kl : I.PassesLines) (km : I.PassesMeter) {s : State} {p : Phase} (h : I.Holds s) :
    I.Holds (s.halfTimeout p) := by
  unfold State.halfTimeout; dsimp only
  repeat' split
  all_goals first
    | exact followLock_steady km (line_steady kl h)
    | exact h

theorem missedCheck_steady (kl : I.PassesLines) {s : State} {p : Phase} (h : I.Holds s) :
    I.Holds (s.missedCheck p) := by
  have h1 : I.Holds (s.modLine p Line.miss) := line_steady kl h
  unfold State.missedCheck; dsimp only
  split
  · split
    · exact phaseLoss_steady kl h1
    · exact h1
  · exact h

theorem goodRunComplete_steady (kl : I.PassesLines) {s : State} {p : Phase} (h : I.Holds s) :
    I.Holds (s.goodRunComplete p) := by
  unfold State.goodRunComplete
  split
  · split
    · exact firstUp_steady kl h
    · exact phaseReturn_steady kl h
    · exact h
  · exact h

theorem firstLimit_steady (kl : I.PassesLines) {s : State} {p : Phase} (h : I.Holds s) :
    I.Holds (s.firstLimit p) := by
  unfold State.firstLimit; split
  · exact firstLost_steady kl h
  · exact h

end Laws

end Sys2Proof.Machine
end

