-- ==== Sys2Proof/Laws/SteadyExec.lean ====
section
/-! SUPPORT. The requests, the answers and the steps keep every `Inv`: `exec_steady` says once, for all commands,
what a command can do. The further updates a command makes are listed in `Inv.Allows`. -/

namespace Sys2Proof.Machine

/-- PRST_N stands as it was. -/
def prstInv (b : Bool) : Inv where
  holds s := s.port.prstLow = b
  outlet _ _ _ h _ := h
  slot _ _ _ h _ := h
  context _ _ h := h
  waitList _ _ h := h
  gates _ _ h := h
  guards _ _ h := h
  ext _ _ h := h
  work _ _ h := h
  link _ _ h _ := h
  flag _ _ h := h
  attn _ h := h
  dequeue _ _ h := h
  enqueue _ _ h _ _ := h

namespace Laws

variable {I : Inv}

/-! ### Claims and exchanges -/

theorem take_steady (k : I.PassesOwners) {s : State} {es : List OutletRes} {own : Owner} (h : I.Holds s) :
    I.Holds (s.take es own) := foldl_steady (fun _ _ hs => k _ _ _ _ hs) _ _ h

theorem takesClaims_of_owners (k : I.PassesOwners) : I.TakesClaims := fun _ _ _ _ h _ => take_steady k h

theorem rereserve_steady (k : I.PassesOwners) {s : State} {es : List OutletRes} (h : I.Holds s) :
    I.Holds (s.rereserve es) := by
  refine foldl_steady (fun s e hs => ?_) _ _ h
  dsimp only
  split
  · exact hs
  · have ht : I.Holds (s.modOutlet e.outlet fun o => { o with reservation := e.res }) := k _ _ _ _ hs
    repeat' split
    all_goals first
      | exact gateDue_steady ht
      | exact ht

theorem giveUp_steady {s : State} {ns : List Nat} (h : I.Holds s) : I.Holds (s.giveUp ns) :=
  releaseOutlets_steady (withdrawAll_steady h)

theorem takesSwaps_of_owners (k : I.PassesOwners) : I.TakesSwaps := by
  intro s i old new s' h _ he
  unfold State.exchange at he
  dsimp only at he
  repeat' split at he
  all_goals cases he
  exact modLoad_steady (take_steady k (rereserve_steady k (giveUp_steady h))) fun _ q => q

/-! ### The port -/

theorem quiet_steady (kq : I.PassesPort) {s : State} (h : I.Holds s) : I.Holds s.quiet := kq _ _ h ⟨rfl, fun _ q => q⟩

theorem place_steady (kq : I.PassesPort) {s : State} {k : Byte} {st : Status} {b : AnswerBody} (h : I.Holds s)
    (hp : s.port.prstLow = false) : I.Holds (s.place k st b) :=
  kq _ _ h ⟨rfl, fun q => by simp [hp] at q⟩

theorem reply_steady (kq : I.PassesPort) {s : State} {k : ReqKind} {r : Reply} (h : I.Holds s) (hp : s.port.prstLow = false) :
    I.Holds (s.reply k r) := by
  cases r
  · exact place_steady kq h hp
  · exact kq _ _ h ⟨rfl, fun q => by simp [hp] at q⟩

theorem written_steady (kq : I.PassesPort) {s : State} {f : State → State} (h : I.Holds s)
    (hf : ∀ s, I.Holds s → s.port.prstLow = false → I.Holds (f s)) : I.Holds (s.written f) := by
  unfold State.written
  split
  · exact quiet_steady kq h
  · split
    · exact raiseFlag_steady (quiet_steady kq h)
    · rename_i hp _
      exact hf _ (quiet_steady kq h) (show s.port.prstLow = false by simpa using hp)

theorem request_steady (kq : I.PassesPort) {α : Type} {s : State} {k : ReqKind} {body : Body α} {own : State → α → State × Reply}
    (h : I.Holds s) (ho : ∀ s a, I.Holds s → I.Holds (own s a).1)
    (hp : ∀ s a, s.port.prstLow = false → (own s a).1.port.prstLow = false) :
    I.Holds (s.request k body own) := by
  refine written_steady kq h fun s hs hl => ?_
  cases body with
  | unfit => exact reply_steady kq hs hl
  | fits a => exact reply_steady kq (ho s a hs) (hp s a hl)

theorem endHeld_steady (kq : I.PassesPort) {s : State} {k : ReqKind} {i : Nat} {st : Status} {b : AnswerBody} (h : I.Holds s) :
    I.Holds (s.endHeld k i st b) := by
  unfold State.endHeld; split
  · rename_i he
    exact kq _ _ h ⟨rfl, fun _ q => by rw [he] at q; cases q⟩
  · exact h

theorem named_steady {s : State} {t : Tag} {f : Nat → Load → State × Reply} (h : I.Holds s)
    (hf : ∀ i l, s.load i = some l → I.Holds (f i l).1) : I.Holds (s.named t f).1 := by
  unfold State.named
  split
  · exact h
  · split
    · exact h
    · split
      · exact hf _ _ (by assumption)
      · exact h

theorem namedExpecting_steady {s : State} {t : Tag} {e : Option Nat} {f : Nat → Load → State × Reply}
    (h : I.Holds s) (hf : ∀ i l, s.load i = some l → I.Holds (f i l).1) :
    I.Holds (s.namedExpecting t e f).1 := by
  refine named_steady h fun i l hl => ?_
  repeat' split
  all_goals first
    | exact hf _ _ hl
    | exact h

/-! ### Load Table -/

theorem newLoad_strikes (r : AdmitReq) (c : Nat) : (newLoad r c).strikesKept = true := by
  simp [newLoad, Load.strikesKept]

theorem admit_steady (hc : I.TakesClaims) {s : State} {r : AdmitReq} (h : I.Holds s) : I.Holds (s.admitLoad r).1 := by
  have into : ∀ i, s.claimFails r.locals false = none → I.Holds (s.admitInto i r).1 := by
    intro i hf
    have h1 : I.Holds ((s.take r.locals (.bound i)).setSlot i
        { counter := nextRevision (s.slot i).counter, load := some (newLoad r (nextRevision (s.slot i).counter)) }) :=
      setSlot_steady (hc s _ _ _ h hf) fun _ => newLoad_strikes r _
    unfold State.admitInto; dsimp only; split
    · exact h1
    · exact sendBind_steady h1
  unfold State.admitLoad
  repeat' split
  all_goals first
    | exact h
    | skip
  unfold State.admitNew
  split
  · exact h
  · split
    · exact h
    · split
      · exact h
      · exact into _ (by assumption)

theorem amend_steady (hc : I.TakesSwaps) {s : State} {r : AmendReq} (h : I.Holds s) : I.Holds (s.amend r).1 := by
  have apply : ∀ (s : State) i, I.Holds s → I.Holds (s.amendApply i r).1 := fun s i hs =>
    bumpRevision_steady (modLoad_steady hs fun _ q => applied_strikes q)
  refine namedExpecting_steady h fun i l hl => ?_
  split
  · exact h
  · rename_i hok
    unfold State.amendRun
    split
    · split
      · exact bumpRevision_steady h
      · unfold State.amendPeers; dsimp only
        split
        · exact sendBind_steady (moveTo_steady (modLoad_steady h fun _ q => q))
        · exact sendUnbind_steady (moveTo_steady (modLoad_steady h fun _ q => q))
    · split
      · exact modLoad_steady h fun _ q => q
      · split
        · rename_i es hes
          split
          · rename_i s' hs'
            refine apply _ _ (hc s i l.locals es s' h ?_ hs')
            have hform : amendOk s.rating r = true := by
              cases hb : amendOk s.rating r with
              | true => rfl
              | false => simp [State.amendFails, hb] at hok
            simp only [amendOk, hes, Bool.and_eq_true] at hform
            exact hform.1.1.1.1
          · exact h
        · exact apply _ _ h

theorem removeLoad_steady {s : State} {i : Nat} (h : I.Holds s) : I.Holds (s.removeLoad i) :=
  setSlot_steady (dropVictim_steady (releaseOutlets_steady h)) slotMove_none

theorem retire_steady {s : State} {r : RetireReq} (h : I.Holds s) : I.Holds (s.retire r).1 := by
  refine namedExpecting_steady h fun i l hl => ?_
  split
  · exact h
  · unfold State.retireRun
    split
    · exact removeLoad_steady h
    · split
      · exact sendUnbind_steady (moveTo_steady (unshedLoad_steady h))
      · exact removeLoad_steady h

theorem lookup_steady {s : State} {t : Tag} (h : I.Holds s) : I.Holds (s.lookup t).1 :=
  named_steady h fun _ _ _ => h

theorem list_steady {s : State} {n : Nat} (h : I.Holds s) : I.Holds (s.list n).1 := by
  unfold State.list; split <;> exact h

theorem readNotices_steady {s : State} {u : Unit} (h : I.Holds s) : I.Holds (s.readNotices u).1 :=
  foldl_steady (f := fun s i => s.modLoad i fun l => { l with notices := 0 })
    (fun _ _ hs => modLoad_steady hs fun _ q => q) _ _ h

theorem headsDue_steady {s : State} {i : Nat} (h : I.Holds s) : I.Holds (s.headsDue i) := by
  refine foldl_steady (fun s b hs => ?_) _ _ h
  repeat' split
  all_goals first
    | exact gateDue_steady hs
    | exact hs

theorem pin_steady {s : State} {t : Tag} (h : I.Holds s) : I.Holds (s.pin t).1 := by
  refine named_steady h fun i l hl => ?_
  repeat' split
  all_goals first
    | exact headsDue_steady (setLoad_steady h hl id)
    | exact h

theorem addAlias_steady {s : State} {r : TagPair} (h : I.Holds s) : I.Holds (s.addAlias r).1 := by
  refine named_steady h fun i l hl => ?_
  repeat' split
  all_goals first
    | exact setLoad_steady h hl id
    | exact h

theorem removeAlias_steady {s : State} {r : TagPair} (h : I.Holds s) : I.Holds (s.removeAlias r).1 := by
  refine named_steady h fun i l hl => ?_
  repeat' split
  all_goals first
    | exact setLoad_steady h hl id
    | exact h

/-! ### Power requests -/

theorem power_steady {s : State} {t : Tag} {f : Nat → Load → State × Reply} (h : I.Holds s)
    (hf : ∀ i l, s.load i = some l → I.Holds (f i l).1) : I.Holds (s.power t f).1 := by
  refine named_steady h fun i l hl => ?_
  split
  · exact h
  · exact hf _ _ hl

theorem powerOn_steady {s : State} {t : Tag} (h : I.Holds s) : I.Holds (s.powerOn t).1 := by
  refine power_steady h fun i l hl => ?_
  repeat' split
  all_goals first
    | exact start_steady h
    | exact h

theorem powerOff_steady {s : State} {t : Tag} (h : I.Holds s) : I.Holds (s.powerOff t).1 := by
  refine power_steady h fun i l hl => ?_
  repeat' split
  all_goals first
    | exact stop_steady (abandonPowerOff_steady h)
    | exact stop_steady h
    | exact h

theorem cycle_steady {s : State} {t : Tag} (h : I.Holds s) : I.Holds (s.cycle t).1 := by
  refine power_steady h fun i l hl => ?_
  repeat' split
  all_goals first
    | exact enterCycling_steady (setLoad_steady h hl id)
    | exact h

theorem cancel_steady {s : State} {t : Tag} (h : I.Holds s) : I.Holds (s.cancel t).1 := by
  refine power_steady h fun i l hl => ?_
  repeat' split
  all_goals first
    | exact enterOn_steady (leaveWaiting_steady h)
    | exact cancelCycle_steady h
    | exact h

theorem releaseQuarantined_steady {s : State} {i : Nat} (h : I.Holds s) : I.Holds (s.releaseQuarantined i) := by
  have h1 : I.Holds (s.modLoad i fun l => { l with strikes := 0 }) :=
    modLoad_steady h fun l _ => by simp [Load.strikesKept]
  unfold State.releaseQuarantined; dsimp only
  split
  · exact enterOn_steady h1
  · exact moveTo_steady (unshedLoad_steady (withdrawAll_steady h1))

theorem leaveHold_steady {s : State} {i b : Nat} (h : I.Holds s) : I.Holds (s.leaveHold i b) := by
  unfold State.leaveHold; dsimp only; split
  · exact setGuardState_steady h
  · exact h

theorem release_steady {s : State} {t : Tag} (h : I.Holds s) : I.Holds (s.release t).1 := by
  refine power_steady h fun i l hl => ?_
  split
  · exact releaseQuarantined_steady h
  · unfold State.releaseShed; split
    · exact h
    · exact start_steady (foldl_steady (fun _ _ hs => leaveHold_steady hs) _ _ h)
  · exact enterOn_steady h
  · exact h

theorem takeBeats_steady {s : State} {l : List Tag} (h : I.Holds s) : I.Holds (s.takeBeats l).1 := by
  unfold State.takeBeats; split
  · exact beats_steady l s h
  · exact h

/-! ### Orders and presence -/

theorem endAmend_steady (kq : I.PassesPort) {s : State} {i : Nat} {q : AmendSeq} {n : List OutletRes} {st : Status} {b : AnswerBody}
    (h : I.Holds s) : I.Holds (s.endAmend i q n st b) := by
  have h1 : I.Holds ((s.moveTo i .unpowered).modLoad i fun l => { l with peers := n, amendSeq := none }) :=
    modLoad_steady (moveTo_steady h) fun _ k => k
  unfold State.endAmend; dsimp only
  refine endHeld_steady kq ?_
  split
  · exact h1
  · exact bumpRevision_steady h1

theorem endAdmission_steady (kq : I.PassesPort) {s : State} {i : Nat} {e : OrderEnd} (h : I.Holds s) :
    I.Holds (s.endAdmission i e) := by
  unfold State.endAdmission; split
  · exact endHeld_steady kq (moveTo_steady h)
  · exact endHeld_steady kq (removeLoad_steady h)
  · exact endHeld_steady kq (removeLoad_steady h)

theorem amendUnbound_steady (kq : I.PassesPort) {s : State} {i : Nat} {q : AmendSeq} (h : I.Holds s) :
    I.Holds (s.amendUnbound i q) := by
  unfold State.amendUnbound
  repeat' split
  all_goals first
    | exact endAmend_steady kq h
    | exact sendBind_steady (moveTo_steady (modLoad_steady h fun _ k => k))

theorem endAmendment_steady (kq : I.PassesPort) {s : State} {i : Nat} {e : OrderEnd} (h : I.Holds s) :
    I.Holds (s.endAmendment i e) := by
  unfold State.endAmendment
  repeat' split
  all_goals first
    | exact amendUnbound_steady kq h
    | exact endAmend_steady kq h
    | exact h

theorem endOwn_steady {s : State} {i : Nat} {e : OrderEnd} (h : I.Holds s) : I.Holds (s.endOwn i e) := by
  unfold State.endOwn; dsimp only
  split
  · exact judgeStop_steady (judgeStart_steady (notice_steady h))
  · exact judgeStop_steady (judgeStart_steady h)

theorem endCycleDrop_steady {s : State} {i : Nat} {e : OrderEnd} (h : I.Holds s) :
    I.Holds (s.endCycleDrop i e) := by
  unfold State.endCycleDrop; split
  · exact dropAnswered_steady h
  · exact dropFailed_steady h
  · exact dropFailed_steady (notice_steady h)
  · exact dropFailed_steady h
  · exact h

theorem endCycleRaise_steady {s : State} {i : Nat} {e : OrderEnd} (h : I.Holds s) :
    I.Holds (s.endCycleRaise i e) := by
  unfold State.endCycleRaise; split
  · exact raiseAnswered_steady h
  · split
    · exact raiseFailedBy_steady h
    · exact raiseFailedBy_steady (notice_steady h)
  · exact raiseFailedBy_steady (notice_steady h)
  · exact raiseFailedBy_steady h
  · exact h

theorem endOrder_steady (kq : I.PassesPort) {s : State} {i : Nat} {o : OrderRec} {e : OrderEnd} (h : I.Holds s) :
    I.Holds (s.endOrder i o e) := by
  have h1 : I.Holds (s.modLoad i fun l => { l with order := none }) := modLoad_steady h fun _ k => k
  unfold State.endOrder; dsimp only
  split
  · exact endAdmission_steady kq h1
  · exact endAmendment_steady kq h1
  · exact endHeld_steady kq (removeLoad_steady h1)
  · split
    · exact endCycleDrop_steady h1
    · exact endCycleRaise_steady h1
    · exact h1
  · exact endOwn_steady h1

theorem takeAnswer_steady (kq : I.PassesPort) {s : State} {t : Tag} {n : Nat} {e : OrderEnd} (h : I.Holds s) :
    I.Holds (s.takeAnswer t n e) := by
  unfold State.takeAnswer
  repeat' split
  all_goals first
    | exact endOrder_steady kq h
    | exact h

theorem taken_steady {s : State} {f : LinkFrame} {a : State → State} (h : I.Holds s)
    (ha : I.Holds (a s)) : I.Holds (s.taken f a) := by
  unfold State.taken; split
  · exact ha
  · exact h

theorem loseOrder_steady (kq : I.PassesPort) {s : State} {i : Nat} (h : I.Holds s) : I.Holds (s.loseOrder i) := by
  unfold State.loseOrder; split
  · exact endOrder_steady kq h
  · exact h

theorem linkLeaves_steady (kq : I.PassesPort) {s : State} (h : I.Holds s) : I.Holds s.linkLeaves := by
  have h1 : I.Holds (slotNumbers.foldl State.loseOrder s) :=
    foldl_steady (fun _ _ hs => loseOrder_steady kq hs) _ _ h
  unfold State.linkLeaves
  generalize slotNumbers.foldl State.loseOrder s = t at h1 ⊢
  exact link_steady h1 ⟨rfl, rfl, rfl, rfl, rfl⟩

theorem unstrand_steady {s : State} {i : Nat} (h : I.Holds s) : I.Holds (s.unstrand i) := by
  unfold State.unstrand
  repeat' split
  all_goals first
    | exact enterOn_steady h
    | exact quarantine_steady h
    | exact enterCycling_steady h
    | exact h

theorem movePresence_steady (kq : I.PassesPort) (kl : I.PassesLink) {s : State} {p : Presence} (h : I.Holds s) :
    I.Holds (s.movePresence p) := by
  have h1 : I.Holds (({ s with link := { s.link with presence := p } } : State).raiseFlag .peer) :=
    raiseFlag_steady (kl s _ h)
  unfold State.movePresence; dsimp only
  split
  · exact h
  · split
    · exact linkLeaves_steady kq h1
    · split
      · exact foldl_steady (fun _ _ hs => unstrand_steady hs) _ _ h1
      · exact h1

theorem takeHello_steady (kq : I.PassesPort) (kl : I.PassesLink) {s : State} {d : Side} {c r : Nat} (h : I.Holds s) :
    I.Holds (s.takeHello d c r) := by
  unfold State.takeHello; dsimp only
  split
  · exact kl s _ h
  · exact movePresence_steady kq kl (kl _ _ (kl s _ h))

theorem silenceExpiry_steady (kq : I.PassesPort) (kl : I.PassesLink) {s : State} (h : I.Holds s) : I.Holds s.silenceExpiry := by
  unfold State.silenceExpiry; split
  · exact movePresence_steady kq kl (kl s _ h)
  · exact h

theorem judgeSide_steady (kq : I.PassesPort) (kl : I.PassesLink) {s : State} (h : I.Holds s) : I.Holds s.judgeSide := by
  unfold State.judgeSide; dsimp only
  repeat' split
  all_goals first
    | exact movePresence_steady kq kl (kl s _ h)
    | exact movePresence_steady kq kl h
    | exact h

theorem makeHello_steady {s : State} (h : I.Holds s) : I.Holds s.makeHello := transmit_steady h

theorem helloSend_steady (kq : I.PassesPort) (kl : I.PassesLink) {s : State} (h : I.Holds s) : I.Holds s.helloSend := by
  unfold State.helloSend; dsimp only
  split
  · split
    · exact judgeSide_steady kq kl (makeHello_steady (kl s _ h))
    · exact makeHello_steady (kl s _ h)
  · exact h

/-! ### Partner orders -/

theorem takeBind_steady (hc : I.TakesClaims) {s : State} {t : Tag} {o : Nat} {es : List OutletRes} {p : Nat}
    (h : I.Holds s) : I.Holds (s.takeBind t o es p) := by
  have h := dropAnswer_steady (t := t) h
  unfold State.takeBind; dsimp only; split
  · exact transmit_steady h
  · split
    · exact transmit_steady h
    · exact transmit_steady (hc _ _ _ _ h (by assumption))

theorem takeUnbind_steady {s : State} {t : Tag} {o : Nat} (h : I.Holds s) : I.Holds (s.takeUnbind t o) := by
  unfold State.takeUnbind; dsimp only; split
  · exact transmit_steady h
  · exact releaseOutlets_steady (putAnswer_steady (unshedLent_steady (setHolds_steady h)))

theorem takeDrop_steady {s : State} {t : Tag} {o k : Nat} (h : I.Holds s) : I.Holds (s.takeDrop t o k) := by
  unfold State.takeDrop; dsimp only
  split
  · exact transmit_steady h
  · split
    · exact transmit_steady (setHolds_steady (foldl_steady (fun _ _ hs => openRequest_steady hs) _ _
        (clearLineLost_steady (unshedLent_steady (dropAnswer_steady h)))))
    · exact putAnswer_steady (setHolds_steady (foldl_steady (fun _ _ hs => openRequest_steady hs) _ _
        (clearLineLost_steady (unshedLent_steady (dropAnswer_steady h)))))

theorem raiseOutlet_steady {s : State} {n : Nat} (h : I.Holds s) : I.Holds (s.raiseOutlet n) := by
  unfold State.raiseOutlet; split
  · exact insertLent_steady h
  · exact insertLent_steady h
  · exact h

theorem takeRaise_steady {s : State} {t : Tag} {o : Nat} (h : I.Holds s) : I.Holds (s.takeRaise t o) := by
  have h := dropAnswer_steady (t := t) h
  unfold State.takeRaise; dsimp only
  generalize s.dropAnswer t = s at h ⊢
  split
  · exact transmit_steady h
  · have h1 : I.Holds ((s.lendingHeld t).foldl State.raiseOutlet ((s.setHolds (s.lending t) none).unshedLent t)) :=
      foldl_steady (fun _ _ hs => raiseOutlet_steady hs) _ _ (unshedLent_steady (setHolds_steady h))
    split
    · exact transmit_steady h1
    · split
      · exact transmit_steady h1
      · exact putAnswer_steady h1

theorem holdExpiry_steady {s : State} (h : I.Holds s) : I.Holds s.holdExpiry :=
  foldl_steady (fun _ _ hs => insertLent_steady hs) _ _ (setHolds_steady h)

theorem reclaimGroup_steady {s : State} {ns : List Nat} {t : Tag} (h : I.Holds s) :
    I.Holds (s.reclaimGroup ns t) :=
  releaseOutlets_steady (foldl_steady (fun _ _ hs => leaveShed_steady hs) _ _ (setHolds_steady h))

theorem reclaim_steady {s : State} {ns : List Nat} (h : I.Holds s) : I.Holds (s.reclaim ns).1 := by
  unfold State.reclaim; dsimp only
  repeat' split
  all_goals first
    | exact foldl_steady (fun _ _ hs => reclaimGroup_steady hs) _ _ h
    | exact h

/-! ### Reports, settings, image -/

theorem readOutlets_steady {s : State} {r : OutletsReq} (h : I.Holds s) : I.Holds (s.readOutlets r).1 := by
  unfold State.readOutlets; split <;> exact h

theorem revive_steady {s : State} {n : Nat} (h : I.Holds s) : I.Holds (s.revive n).1 := by
  unfold State.revive; split
  · refine setOutlet_steady h ⟨Nat.le_refl _, fun k => ?_, rfl, rfl, rfl, rfl, rfl⟩
    simp only [Outlet.inRange, Outlet.revived, Bool.and_eq_true, decide_eq_true_eq] at k ⊢
    exact ⟨⟨k.1.1, decide_eq_true (Nat.zero_le _)⟩, decide_eq_true k.2⟩
  · exact h

theorem readFaults_steady (hc : I.PassesCapture) {s : State} {b : Bool} (h : I.Holds s) :
    I.Holds (s.readFaults b).1 := by
  unfold State.readFaults; dsimp only; split
  · exact hc s _ _ h
  · exact h

theorem readMeter_steady (kf : I.PassesFigures) {s : State} {r : MeterReq} (h : I.Holds s) :
    I.Holds (s.readMeter r).1 := by
  unfold State.readMeter
  split
  · split
    · dsimp only
      split
      · unfold State.clearEnergy; split
        · exact foldl_steady (f := fun s n => s.modOutlet n fun o => { o with energy := 0, residue := 0 })
            (fun _ _ hs => kf _ _ _ hs (Nat.le_refl _) id) _ _ h
        · exact h
      · exact h
    · exact h
  · exact h

theorem leaveUse_steady (kf : I.PassesFigures) {s : State} {n : Nat} (h : I.Holds s) : I.Holds (s.leaveUse n) := by
  have left : I.Holds (s.modOutlet n Outlet.leftUse) := kf _ _ _ h (Nat.le_refl _) id
  unfold State.leaveUse; dsimp only; split
  · exact freeOutlet_steady left
  · exact left

theorem reuseOutlet_steady (kf : I.PassesFigures) {was s : State} {n : Nat} (h : I.Holds s) :
    I.Holds (was.reuseOutlet s n) := by
  unfold State.reuseOutlet
  repeat' split
  all_goals first
    | exact leaveUse_steady kf h
    | exact setOutlet_steady h (outletMove_freed rfl rfl rfl rfl rfl rfl rfl rfl rfl rfl)
    | exact h

theorem reuseBranch_steady (km : I.PassesMeter) {was s : State} {b : Nat} (h : I.Holds s) :
    I.Holds (was.reuseBranch s b) := by
  unfold State.reuseBranch; dsimp only; split
  · exact gateDue_steady (modGuard_steady h)
  · exact gateDue_steady (km _ _ (modGate_steady (modGuard_steady h)))

theorem adoptNow_steady {s : State} {n : Nat} (h : I.Holds s) : I.Holds (s.adoptNow n) := by
  unfold State.adoptNow; split
  · exact h
  · exact adoptUp_steady h

theorem changeGeometry_steady (kf : I.PassesFigures) (km : I.PassesMeter) (kp : I.PassesPatrol) {was s : State}
    (h : I.Holds s) : I.Holds (was.changeGeometry s) := by
  unfold State.changeGeometry; dsimp only
  split
  · exact foldl_steady (fun _ _ hs => adoptNow_steady hs) _ _ (senseAll_steady
      (foldl_steady (fun _ _ hs => reuseOutlet_steady kf hs) _ _
        (foldl_steady (fun _ _ hs => reuseBranch_steady km hs) _ _ h)))
  · exact kp _ _ (foldl_steady (fun _ _ hs => adoptNow_steady hs) _ _ (senseAll_steady
      (foldl_steady (fun _ _ hs => reuseOutlet_steady kf hs) _ _
        (foldl_steady (fun _ _ hs => reuseBranch_steady km hs) _ _ h))))

theorem reaim_steady {s : State} {n : Nat} (h : I.Holds s) : I.Holds (s.reaim n) := by
  unfold State.reaim; split
  · exact keeps_steady h
  · exact h

theorem spacingChanged_steady {s : State} (h : I.Holds s) : I.Holds s.spacingChanged :=
  foldl_steady (fun _ _ hs => gateDue_steady hs) _ _ (foldl_steady (fun _ _ hs => reaim_steady hs) _ _ h)

theorem wearChanged_steady {s : State} (h : I.Holds s) : I.Holds s.wearChanged :=
  foldl_steady (fun _ _ hs => keeps_steady hs) _ _ h

theorem thresholdsChanged_steady {was s : State} (h : I.Holds s) : I.Holds (was.thresholdsChanged s) := by
  refine foldl_steady (fun s b hs => ?_) _ _ h
  split
  · exact hs
  · exact gateDue_steady hs

/-- What CONFIGURE does once the new settings are in force. -/
theorem reconfigure_steady (kf : I.PassesFigures) (km : I.PassesMeter) (kp : I.PassesPatrol)
    (kd : I.PassesDrip) {was : State} {g : Settings} (h : I.Holds (was.under g)) :
    I.Holds (was.reconfigure g) := by
  have geometry : ∀ s : State, I.Holds s → I.Holds (was.noteGeometry s) := fun s hs => by
    unfold State.noteGeometry; split
    · exact hs
    · exact changeGeometry_steady kf km kp hs
  have spacing : ∀ s : State, I.Holds s → I.Holds (was.noteSpacing s) := fun s hs => by
    unfold State.noteSpacing; split
    · exact hs
    · exact spacingChanged_steady hs
  have wear : ∀ s : State, I.Holds s → I.Holds (was.noteWear s) := fun s hs => by
    unfold State.noteWear; split
    · exact hs
    · exact wearChanged_steady hs
  have drip : ∀ s : State, I.Holds s → I.Holds (was.noteDrip s) := fun s hs => by
    unfold State.noteDrip; split
    · exact hs
    · exact kd _ _ hs
  exact drip _ (wear _ (spacing _ (thresholdsChanged_steady (geometry _ h))))

theorem configure_steady (kf : I.PassesFigures) (km : I.PassesMeter) (kp : I.PassesPatrol) (kd : I.PassesDrip)
    {s : State} {cs : List SettingChange} (h : I.Holds s)
    (hg : s.configureFails (s.under (s.resulting cs)) cs = none → I.Holds (s.under (s.resulting cs))) :
    I.Holds (s.configure cs).1 := by
  unfold State.configure; dsimp only
  split
  · exact h
  · exact reconfigure_steady kf km kp kd (hg (by assumption))

/-- CONFIGURE leaves PRST_N as it is. -/
theorem configure_prst {b : Bool} {s : State} {cs : List SettingChange} (h : (prstInv b).Holds s) :
    (prstInv b).Holds (s.configure cs).1 :=
  configure_steady (I := prstInv b) (fun _ _ _ kept _ _ => kept) (fun _ _ kept => kept) (fun _ _ kept => kept)
    (fun _ _ kept => kept) h fun _ => h

theorem save_steady (ks : I.PassesStore) {s : State} {u : Unit} (h : I.Holds s) : I.Holds (s.save u).1 := by
  unfold State.save; split
  · exact h
  · exact ks _ _ h

theorem endSave_steady (ks : I.PassesStore) {s : State} {b : Bool} (h : I.Holds s) : I.Holds (s.endSave b) := by
  unfold State.endSave; split
  · exact h
  · split
    · exact raiseFlag_steady (ks _ _ h)
    · exact raiseFlag_steady (ks _ _ h)

end Laws

end Sys2Proof.Machine
end

