-- ==== Sys2Proof/Laws/SteadyStep.lean ====
section
/-! SUPPORT. `exec_steady`: what any command can do to the state, said once. A command keeps every `Inv` that
stands the further updates it makes (`Inv.Allows`). -/

namespace Sys2Proof.Machine

/-- The property stands a change of PRST_N that leaves the port IDLE while it is low. -/
def Inv.PassesPins (I : Inv) : Prop :=
  ∀ s (p : Port), (p.prstLow = true → p.state = .idle) → I.Holds s → I.Holds { s with port := p }

/-- What a command does beyond the primitive updates. -/
def Inv.Allows (I : Inv) : Instr → Prop
  | .coldReset _ _ _ _ => ∀ s strap l, I.Holds s → I.Holds (s.coldReset strap l)
  | .configure _ _ => ∀ s cs, I.Holds s → I.Holds (s.configure cs).1
  | .portReset _ => I.PassesPins
  | .portResetRelease _ => I.PassesPins
  | .admitLoad _ _ => I.TakesClaims
  | .bind _ _ _ _ _ => I.TakesClaims
  | .amend _ _ => I.TakesSwaps
  | .faults _ _ => I.PassesCapture
  | .closeConfirmWindowEnd _ _ => I.PassesCapture
  | .openConfirmWindowEnd _ _ => I.PassesCapture
  | .windowEnd _ _ => I.PassesCapture ∧ I.PassesFigures ∧ I.PassesLines ∧ I.PassesMeter
  | .meter _ _ => I.PassesFigures
  | .save _ _ => I.PassesStore
  | .saveEnd _ _ => I.PassesStore
  | .attention _ _ => I.PassesFlags
  | .dripExpiry _ => I.PassesDrip
  | .patrolTick _ => I.PassesPatrol
  | .hello _ _ _ _ => I.PassesLink
  | .helloSend _ => I.PassesLink
  | .silenceExpiry _ => I.PassesLink
  | .phaseCrossing _ _ _ _ => I.PassesLines ∧ I.PassesMeter
  | .halfCycleTimeout _ _ => I.PassesLines ∧ I.PassesMeter
  | .missedCrossingCheck _ _ => I.PassesLines
  | .goodRunComplete _ _ => I.PassesLines
  | .firstJudgementLimit _ _ => I.PassesLines
  | _ => True

namespace Laws

variable {I : Inv}

theorem done_next {x t : State} (e : x.done = .next t) : x.finish = t := Host.Outcome.next.inj e

theorem done_steady {x t : State} (h : I.Holds x) (e : x.done = .next t) : I.Holds t :=
  done_next e ▸ finish_steady h

theorem expireOrder_steady (kq : I.PassesPort) {s : State} {i : Nat} (h : I.Holds s) :
    I.Holds (s.expireOrder i) := by
  unfold State.expireOrder; split
  · split
    · exact endOrder_steady kq h
    · exact h
  · exact h

theorem port_state_steady (kq : I.PassesPort) {s : State} {p : Port} (h : I.Holds s)
    (hl : p.prstLow = s.port.prstLow)
    (hf : s.port.prstLow = false) : I.Holds { s with port := p } :=
  kq _ _ h ⟨hl, fun q => by simp [hf] at q⟩

theorem readPort_steady (kq : I.PassesPort) {s : State} {c : Bool} (h : I.Holds s) : I.Holds (s.readPort c) := by
  unfold State.readPort
  split
  · exact quiet_steady kq h
  · rename_i hp
    have hf : s.port.prstLow = false := by simpa using hp
    split
    · exact port_state_steady kq h rfl hf
    · exact port_state_steady kq h rfl hf

theorem ignoreTransaction_steady (kq : I.PassesPort) {s : State} {b : Byte} (h : I.Holds s) :
    I.Holds (s.ignoreTransaction b) := by
  unfold State.ignoreTransaction
  split
  · exact quiet_steady kq h
  · split
    · exact h
    · exact raiseFlag_steady (quiet_steady kq h)

theorem frameFailed_steady (kq : I.PassesPort) {s : State} {l : List Byte} (h : I.Holds s) :
    I.Holds (s.frameFailed l) := by
  unfold State.frameFailed; split
  · exact written_steady kq h fun s hs hl => by
      split
      · exact raiseFlag_steady (place_steady kq hs hl)
      · exact hs
  · exact h

theorem unknownKind_steady (kq : I.PassesPort) {s : State} {b : Byte} (h : I.Holds s) :
    I.Holds (s.unknownKind b) :=
  written_steady kq h fun s hs hl => by
    split
    · exact hs
    · exact place_steady kq hs hl

/-- What a command can do: it keeps every `Inv` that allows it. -/
theorem exec_steady {c : Instr} {s t : State} (k : I.Allows c) (kp : portCommand c = true → I.PassesPort)
    (h : I.Holds (s.advance c.time)) (e : exec c s = .next t) : I.Holds t := by
  cases c with
  | coldReset =>
    rw [exec_coldReset] at e
    exact done_steady (k _ _ _ h) e
  | portReset t' =>
    rw [exec_portReset] at e
    exact done_steady (k (s.advance t') { state := .idle, prstLow := true, miso := .nothing } (fun _ => rfl) h) e
  | portResetRelease t' =>
    rw [exec_portResetRelease] at e
    exact done_steady (k (s.advance t') { (s.advance t').port with prstLow := false } (fun q => by cases q) h) e
  | readTransaction =>
    have kq := kp rfl
    rw [exec_readTransaction] at e
    exact done_steady (readPort_steady kq h) e
  | ignoredTransaction =>
    have kq := kp rfl
    rw [exec_ignoredTransaction] at e
    exact done_steady (ignoreTransaction_steady kq h) e
  | badFrame =>
    have kq := kp rfl
    rw [exec_badFrame] at e
    exact done_steady (frameFailed_steady kq h) e
  | overrun =>
    have kq := kp rfl
    rw [exec_overrun] at e
    exact done_steady (written_steady kq h fun _ hs _ => hs) e
  | unknownRequestKind =>
    have kq := kp rfl
    rw [exec_unknownRequestKind] at e
    exact done_steady (unknownKind_steady kq h) e
  | admitLoad =>
    have kq := kp rfl
    rw [exec_admit] at e
    exact done_steady (request_steady kq h (fun _ _ hs => admit_steady k hs) fun _ _ hp =>
      admit_steady (I := prstInv false) (takesClaims_of_owners fun _ _ _ _ q => q) hp) e
  | amend =>
    have kq := kp rfl
    rw [exec_amend] at e
    exact done_steady (request_steady kq h (fun _ _ hs => amend_steady k hs) fun _ _ hp =>
      amend_steady (I := prstInv false) (takesSwaps_of_owners fun _ _ _ _ q => q) hp) e
  | retire =>
    have kq := kp rfl
    rw [exec_retire] at e
    exact done_steady (request_steady kq h (fun _ _ hs => retire_steady hs) fun _ _ hp =>
      retire_steady (I := prstInv false) hp) e
  | lookup =>
    have kq := kp rfl
    rw [exec_lookup] at e
    exact done_steady (request_steady kq h (fun _ _ hs => lookup_steady hs) fun _ _ hp =>
      lookup_steady (I := prstInv false) hp) e
  | list =>
    have kq := kp rfl
    rw [exec_list] at e
    exact done_steady (request_steady kq h (fun _ _ hs => list_steady hs) fun _ _ hp =>
      list_steady (I := prstInv false) hp) e
  | pin =>
    have kq := kp rfl
    rw [exec_pin] at e
    exact done_steady (request_steady kq h (fun _ _ hs => pin_steady hs) fun _ _ hp =>
      pin_steady (I := prstInv false) hp) e
  | aliasAdd =>
    have kq := kp rfl
    rw [exec_aliasAdd] at e
    exact done_steady (request_steady kq h (fun _ _ hs => addAlias_steady hs) fun _ _ hp =>
      addAlias_steady (I := prstInv false) hp) e
  | aliasRemove =>
    have kq := kp rfl
    rw [exec_aliasRemove] at e
    exact done_steady (request_steady kq h (fun _ _ hs => removeAlias_steady hs) fun _ _ hp =>
      removeAlias_steady (I := prstInv false) hp) e
  | powerOn =>
    have kq := kp rfl
    rw [exec_powerOn] at e
    exact done_steady (request_steady kq h (fun _ _ hs => powerOn_steady hs) fun _ _ hp =>
      powerOn_steady (I := prstInv false) hp) e
  | powerOff =>
    have kq := kp rfl
    rw [exec_powerOff] at e
    exact done_steady (request_steady kq h (fun _ _ hs => powerOff_steady hs) fun _ _ hp =>
      powerOff_steady (I := prstInv false) hp) e
  | cycle =>
    have kq := kp rfl
    rw [exec_cycle] at e
    exact done_steady (request_steady kq h (fun _ _ hs => cycle_steady hs) fun _ _ hp =>
      cycle_steady (I := prstInv false) hp) e
  | cancel =>
    have kq := kp rfl
    rw [exec_cancel] at e
    exact done_steady (request_steady kq h (fun _ _ hs => cancel_steady hs) fun _ _ hp =>
      cancel_steady (I := prstInv false) hp) e
  | release =>
    have kq := kp rfl
    rw [exec_release] at e
    exact done_steady (request_steady kq h (fun _ _ hs => release_steady hs) fun _ _ hp =>
      release_steady (I := prstInv false) hp) e
  | beat =>
    have kq := kp rfl
    rw [exec_beat] at e
    exact done_steady (request_steady kq h (fun _ _ hs => takeBeats_steady hs) fun _ _ hp =>
      takeBeats_steady (I := prstInv false) hp) e
  | outlets =>
    have kq := kp rfl
    rw [exec_outlets] at e
    exact done_steady (request_steady kq h (fun _ _ hs => readOutlets_steady hs) fun _ _ hp =>
      readOutlets_steady (I := prstInv false) hp) e
  | revive =>
    have kq := kp rfl
    rw [exec_revive] at e
    exact done_steady (request_steady kq h (fun _ _ hs => revive_steady hs) fun _ _ hp =>
      revive_steady (I := prstInv false) hp) e
  | faults =>
    have kq := kp rfl
    rw [exec_faults] at e
    exact done_steady (request_steady kq h (fun _ _ hs => readFaults_steady k hs) fun _ _ hp =>
      readFaults_steady (I := prstInv false) (fun _ _ _ q => q) hp) e
  | meter =>
    have kq := kp rfl
    rw [exec_meter] at e
    exact done_steady (request_steady kq h (fun _ _ hs => readMeter_steady k hs) fun _ _ hp =>
      readMeter_steady (I := prstInv false) (fun _ _ _ q _ _ => q) hp) e
  | reclaim =>
    have kq := kp rfl
    rw [exec_reclaim] at e
    exact done_steady (request_steady kq h (fun _ _ hs => reclaim_steady hs) fun _ _ hp =>
      reclaim_steady (I := prstInv false) hp) e
  | configure =>
    have kq := kp rfl
    rw [exec_configure] at e
    exact done_steady (request_steady kq h (fun _ _ hs => k _ _ hs) fun _ _ hp => configure_prst hp) e
  | settings =>
    have kq := kp rfl
    rw [exec_settings] at e
    exact done_steady (request_steady kq h (fun _ _ hs => hs) fun _ _ hp => hp) e
  | save =>
    have kq := kp rfl
    rw [exec_save] at e
    exact done_steady (request_steady kq h (fun _ _ hs => save_steady k hs) fun _ _ hp =>
      save_steady (I := prstInv false) (fun _ _ q => q) hp) e
  | saveEnd =>
    rw [exec_saveEnd] at e
    exact done_steady (endSave_steady k h) e
  | attention =>
    have kq := kp rfl
    rw [exec_attention] at e
    exact done_steady (request_steady kq h (fun s _ hs => k s Flags.none hs) fun _ _ hp => hp) e
  | notices =>
    have kq := kp rfl
    rw [exec_notices] at e
    exact done_steady (request_steady kq h (fun _ _ hs => readNotices_steady hs) fun _ _ hp =>
      readNotices_steady (I := prstInv false) hp) e
  | bootGraceExpiry =>
    rw [exec_bootGraceExpiry] at e
    exact done_steady (bootExpiry_steady h) e
  | beatDeadlineExpiry =>
    rw [exec_beatDeadlineExpiry] at e
    exact done_steady (beatExpiry_steady h) e
  | confirmExpiry =>
    rw [exec_confirmExpiry] at e
    exact done_steady (confirmExpiry_steady h) e
  | dripExpiry =>
    rw [exec_dripExpiry] at e
    refine done_steady ?_ e
    split
    · exact drip_steady k h
    · exact h
  | dwellExpiry =>
    rw [exec_dwellExpiry] at e
    refine done_steady ?_ e
    split
    · exact closingStart_steady h
    · exact h
  | orderDeadlineExpiry =>
    have kq := kp rfl
    rw [exec_orderDeadlineExpiry] at e
    exact done_steady (expireOrder_steady kq h) e
  | helloSend =>
    have kq := kp rfl
    rw [exec_helloSend] at e
    exact done_steady (helloSend_steady kq k h) e
  | hello =>
    have kq := kp rfl
    rw [exec_hello] at e
    refine done_steady ?_ e
    split
    · exact takeHello_steady kq k h
    · exact h
  | silenceExpiry =>
    have kq := kp rfl
    rw [exec_silenceExpiry] at e
    exact done_steady (silenceExpiry_steady kq k h) e
  | linkFrameDropped =>
    rw [exec_linkFrameDropped] at e
    exact done_steady h e
  | bind =>
    rw [exec_bind] at e
    exact done_steady (taken_steady h (takeBind_steady k h)) e
  | unbind =>
    rw [exec_unbind] at e
    exact done_steady (taken_steady h (takeUnbind_steady h)) e
  | drop =>
    rw [exec_drop] at e
    exact done_steady (taken_steady h (takeDrop_steady h)) e
  | raise =>
    rw [exec_raise] at e
    exact done_steady (taken_steady h (takeRaise_steady h)) e
  | bound =>
    have kq := kp rfl
    rw [exec_bound] at e
    exact done_steady (taken_steady h (takeAnswer_steady kq h)) e
  | refused =>
    have kq := kp rfl
    rw [exec_refused] at e
    exact done_steady (taken_steady h (takeAnswer_steady kq h)) e
  | unbound =>
    have kq := kp rfl
    rw [exec_unbound] at e
    exact done_steady (taken_steady h (takeAnswer_steady kq h)) e
  | dropped =>
    have kq := kp rfl
    rw [exec_dropped] at e
    exact done_steady (taken_steady h (takeAnswer_steady kq h)) e
  | dropRefused =>
    have kq := kp rfl
    rw [exec_dropRefused] at e
    exact done_steady (taken_steady h (takeAnswer_steady kq h)) e
  | raised =>
    have kq := kp rfl
    rw [exec_raised] at e
    exact done_steady (taken_steady h (takeAnswer_steady kq h)) e
  | raiseFailed =>
    have kq := kp rfl
    rw [exec_raiseFailed] at e
    exact done_steady (taken_steady h (takeAnswer_steady kq h)) e
  | holdDeadlineExpiry =>
    rw [exec_holdDeadlineExpiry] at e
    exact done_steady (holdExpiry_steady h) e
  | closeDrive =>
    rw [exec_closeDrive] at e
    exact done_steady (closeDrive_steady h) e
  | closeConfirmed =>
    rw [exec_closeConfirmed] at e
    exact done_steady (closeSensed_steady h) e
  | closeConfirmWindowEnd =>
    rw [exec_closeConfirmWindowEnd] at e
    exact done_steady (closeWindowEnd_steady k h) e
  | openDrive =>
    rw [exec_openDrive] at e
    exact done_steady (openDrive_steady h) e
  | openConfirmed =>
    rw [exec_openConfirmed] at e
    exact done_steady (openSensed_steady h) e
  | openConfirmWindowEnd =>
    rw [exec_openConfirmWindowEnd] at e
    exact done_steady (openWindowEnd_steady k h) e
  | sensedPositionChange =>
    rw [exec_sensedPositionChange] at e
    exact done_steady (sense_steady h) e
  | patrolTick =>
    rw [exec_patrolTick] at e
    exact done_steady (patrolAdvance_steady k h) e
  | windowEnd =>
    rw [exec_windowEnd] at e
    exact done_steady (windowEnd_steady k.1 k.2.1 k.2.2.1 k.2.2.2 h) e
  | spacingExpiry =>
    rw [exec_spacingExpiry] at e
    exact done_steady (spacingExpiry_steady h) e
  | externalShedAssert =>
    rw [exec_externalShedAssert] at e
    exact done_steady (extAssert_steady h) e
  | externalShedDeassert =>
    rw [exec_externalShedDeassert] at e
    exact done_steady (extDeassert_steady h) e
  | phaseCrossing =>
    rw [exec_phaseCrossing] at e
    exact done_steady (crossing_steady k.1 k.2 h) e
  | halfCycleTimeout =>
    rw [exec_halfCycleTimeout] at e
    exact done_steady (halfTimeout_steady k.1 k.2 h) e
  | missedCrossingCheck =>
    rw [exec_missedCrossingCheck] at e
    exact done_steady (missedCheck_steady k h) e
  | goodRunComplete =>
    rw [exec_goodRunComplete] at e
    exact done_steady (goodRunComplete_steady k h) e
  | firstJudgementLimit =>
    rw [exec_firstJudgementLimit] at e
    exact done_steady (firstLimit_steady k h) e
  | linkFrameSent t' =>
    rw [exec_linkFrameSent] at e
    exact done_steady (link_steady (l := { (s.advance t').link with tx := (s.advance t').link.tx.drop 1 }) h
      ⟨rfl, rfl, rfl, rfl, rfl⟩) e

end Laws

end Sys2Proof.Machine
end

