-- ==== Sys2Proof/Laws/Frames.lean ====
section
/-! SUPPORT. Frames: a projection of the state that no primitive update touches is kept by every command that
allows it. `Framed` lists the projections. -/

namespace Sys2Proof.Machine

/-- No primitive update touches the projection. A projection on a field that no primitive update names has every
clause by `rfl`. -/
structure Framed {α : Type} (f : State → α) : Prop where
  outlet : ∀ s n o, OutletMove (s.outlet n) o → f (s.setOutlet n o) = f s := by intros; rfl
  slot : ∀ s i v, f (s.setSlot i v) = f s := by intros; rfl
  context : ∀ (s : State) v, f { s with contexts := v } = f s := by intros; rfl
  waitList : ∀ (s : State) v, f { s with waitList := v } = f s := by intros; rfl
  gates : ∀ (s : State) v, f { s with gates := v } = f s := by intros; rfl
  guards : ∀ (s : State) v, f { s with guards := v } = f s := by intros; rfl
  ext : ∀ (s : State) v, f { s with ext := v } = f s := by intros; rfl
  work : ∀ (s : State) v, f { s with work := v } = f s := by intros; rfl
  link : ∀ s v, LinkMove s.link v → f { s with link := v } = f s := by intros; rfl
  flag : ∀ s k, f (s.raiseFlag k) = f s := by intros; rfl
  attn : ∀ s, f s.judgeLine = f s := by intros; rfl
  queue : ∀ (s : State) v, f { s with queue := v } = f s := by intros; rfl

/-- The property that the projection keeps its value. -/
def Framed.inv {α : Type} {f : State → α} (k : Framed f) (a : α) : Inv where
  holds s := f s = a
  outlet s n o h m := (k.outlet s n o m).trans h
  slot s i v h _ := (k.slot s i v).trans h
  context s v h := (k.context s v).trans h
  waitList s v h := (k.waitList s v).trans h
  gates s v h := (k.gates s v).trans h
  guards s v h := (k.guards s v).trans h
  ext s v h := (k.ext s v).trans h
  work s v h := (k.work s v).trans h
  link s v h m := (k.link s v m).trans h
  flag s g h := (k.flag s g).trans h
  attn s h := (k.attn s).trans h
  dequeue s _ h := (k.queue s _).trans h
  enqueue s _ h _ _ := (k.queue s _).trans h

namespace Laws

/-- A framed projection is kept by every command that allows it, from the moment the command is taken. -/
theorem framed_exec {α : Type} {f : State → α} (k : Framed f) {c : Instr} {s t : State}
    (ha : (k.inv (f (s.advance c.time))).Allows c)
    (hp : portCommand c = true → (k.inv (f (s.advance c.time))).PassesPort) (e : exec c s = .next t) :
    f t = f (s.advance c.time) := exec_steady ha hp rfl e

/-- A framed projection is kept by the end of a step. -/
theorem framed_finish {α : Type} {f : State → α} (k : Framed f) (s : State) : f s.finish = f s :=
  finish_steady (I := k.inv (f s)) rfl

/-! ### The projections -/

theorem framed_now : Framed State.now where
theorem framed_restoredAt : Framed State.restoredAt where
theorem framed_strap : Framed State.strap where
theorem framed_settings : Framed State.settings where
theorem framed_dripStart : Framed State.dripStart where
theorem framed_lines : Framed State.lines where
theorem framed_meter : Framed State.meter where
theorem framed_patrol : Framed State.patrol where
theorem framed_capture : Framed fun s => (s.capture, s.more) where
theorem framed_port : Framed State.port where
theorem framed_store : Framed State.store where
theorem framed_pending : Framed State.pending where

/-- The presence state, the announcement, the link's side and the timers of HELLO. -/
theorem framed_presence : Framed fun s =>
    (s.link.presence, s.link.announce, s.link.silence, s.link.nextHello, s.link.side) where
  link s v m := by obtain ⟨hp, ha, hs, hn, hd⟩ := m; simp only [hp, ha, hs, hn, hd]

/-! ### What a cold reset keeps -/

theorem restoreRecord_steady {I : Inv} (kc : I.TakesClaims) {s : State} {r : ImageRecord} (h : I.Holds s) :
    I.Holds (s.restoreRecord r) := by
  unfold State.restoreRecord
  split
  · rename_i hk
    have hn : s.claimFails r.locals true = none := by
      simp only [Bool.and_eq_true, Option.isNone_iff_eq_none] at hk; exact hk.2
    exact setSlot_steady (kc s _ _ _ h hn) fun _ => by
      simp [Slot.strikesKept, ImageRecord.toLoad, Load.strikesKept]
  · exact raiseFlag_steady h

theorem restoreLentEntry_steady {I : Inv} (kc : I.TakesClaims) {s : State} {e : ImageLent} (h : I.Holds s) :
    I.Holds (s.restoreLentEntry e) := by
  unfold State.restoreLentEntry; dsimp only
  split
  · exact raiseFlag_steady h
  · exact kc s _ _ _ h (by assumption)

theorem coldReset_steady {I : Inv} (kc : I.TakesClaims) {s : State} {strap : Straps} {l : Bool}
    (h : I.Holds (s.wiped strap)) : I.Holds (s.coldReset strap l) := by
  have h1 : I.Holds (match s.store.image with
      | some m => m.records.foldl State.restoreRecord (m.lent.foldl State.restoreLentEntry (s.wiped strap))
      | none => s.wiped strap) := by
    split
    · exact foldl_steady (fun _ _ hs => restoreRecord_steady kc hs) _ _
        (foldl_steady (fun _ _ hs => restoreLentEntry_steady kc hs) _ _ h)
    · exact h
  unfold State.coldReset; dsimp only
  split
  · exact extAssert_steady (makeHello_steady h1)
  · exact makeHello_steady h1

end Laws

end Sys2Proof.Machine
end

