-- ==== Sys2Proof/Laws/Settled.lean ====
section
/-! SUPPORT. How a step ends in a state with nothing left to judge, and how the port takes a request: the two
facts that turn a command's meaning into its next state. -/

namespace Sys2Proof.Machine.Laws

/-- A fold of steps that change nothing changes nothing. -/
theorem foldl_idle {α β : Type} {f : β → α → β} {b : β} {l : List α} (idle : ∀ a ∈ l, f b a = b) :
    l.foldl f b = b :=
  List.foldlRecOn (motive := fun r => r = b) l f rfl fun _ hr a ha => hr.symm ▸ idle a ha

theorem judgeHold_idle {s : State} {b : Nat} (hw : s.work = Work.none) : s.judgeHold b = s := by
  unfold State.judgeHold; simp [hw, Work.none]

theorem judgeReturn_idle {s : State} {b : Nat} (hr : s.returned b = false) : s.judgeReturn b = s := by
  unfold State.judgeReturn; unfold State.returned at hr; simp only [hr]; rfl

/-- With no gate and no branch left to judge, a step ends with the attention line alone. -/
theorem finish_quiet {s : State} (hw : s.work = Work.none) (hr : ∀ b ∈ branchNumbers, s.returned b = false) :
    s.finish = s.judgeLine := by
  have h : s.flush = s := by
    have h1 : branchNumbers.foldl State.judgeHold s = s := foldl_idle fun b _ => judgeHold_idle hw
    have h2 : branchNumbers.foldl State.judgeReturn s = s := foldl_idle fun b hb => judgeReturn_idle (hr b hb)
    have h3 : branchNumbers.foldl
        (fun s b => if s.work.gates.contains b && s.branchInUse b then s.judgeGate b else s) s = s :=
      foldl_idle fun b _ => by simp [hw, Work.none]
    unfold State.flush
    simp only [h1, h2, h3, ← hw]
  rw [State.finish, h]

/-- A settled state is left as it is by the end of a step. -/
theorem finish_settled {s : State} (h : s.Settled) : s.finish = s := by
  rw [finish_quiet h.1 h.2.2, State.judgeLine, ← h.2.1]

theorem settled_advance {s : State} (t : Nat) (h : s.Settled) : (s.advance t).Settled := h

/-- A request taken by a free port is handed to its owner, MISO quiet. -/
theorem request_free {α : Type} {s : State} (h : s.Free) (k : ReqKind) (a : α) (own : State → α → State × Reply) :
    s.request k (.fits a) own = (own s.quiet a).1.reply k (own s.quiet a).2 := by
  obtain ⟨h1, h2⟩ := h
  simp [State.request, State.written, h1, h2]

theorem request_unfit {α : Type} {s : State} (h : s.Free) (k : ReqKind) (own : State → α → State × Reply) :
    s.request k .unfit own = s.answered k .badRequest .nothing := by
  obtain ⟨h1, h2⟩ := h
  simp [State.request, State.written, h1, h2, Reply.plain, State.reply, State.place, State.quiet, State.answered,
    State.answers]

theorem free_advance {s : State} (t : Nat) (h : s.Free) : (s.advance t).Free := h

/-- An answer placed on a quiet port. -/
theorem reply_answer (s : State) (k : ReqKind) (st : Status) (b : AnswerBody) :
    s.quiet.reply k (.answer st b) = s.answered k st b := rfl

/-- An answer does not touch what a step still has to judge. -/
theorem answers_settled {s : State} {kind : Byte} {st : Status} {b : AnswerBody} (h : s.Settled) :
    (s.answers kind st b).Settled := h

theorem answered_settled {s : State} {k : ReqKind} {st : Status} {b : AnswerBody} (h : s.Settled) :
    (s.answered k st b).Settled := h

theorem holding_settled {s : State} {k : ReqKind} {i : Nat} (h : s.Settled) : (s.holding k i).Settled := h

/-! ### Requests -/

/-- A request that its owner answers from a free port, leaving a settled state, answers that state with the answer
placed. -/
theorem request_answered {α : Type} {s u : State} {k : ReqKind} {a : α} {own : State → α → State × Reply} {t : Nat}
    {st : Status} {b : AnswerBody} (hf : s.Free) (h : own (s.advance t).quiet a = (u.quiet, .answer st b))
    (hu : u.Settled) : State.done ((s.advance t).request k (.fits a) own) = .next (u.answered k st b) := by
  rw [request_free (free_advance t hf), h]
  show State.done (u.quiet.reply k (.answer st b)) = _
  rw [reply_answer]
  unfold State.done
  rw [finish_settled (answered_settled hu)]

/-- A request that its owner answers from a free port, whatever is left to judge. -/
theorem request_finished {α : Type} {s u : State} {k : ReqKind} {a : α} {own : State → α → State × Reply} {t : Nat}
    {st : Status} {b : AnswerBody} (hf : s.Free) (h : own (s.advance t).quiet a = (u, .answer st b)) :
    State.done ((s.advance t).request k (.fits a) own) = .next (u.place k.code st b).finish := by
  rw [request_free (free_advance t hf), h]; rfl

/-- A request whose answer is held from a free port, leaving a settled state. -/
theorem request_held {α : Type} {s u : State} {k : ReqKind} {a : α} {own : State → α → State × Reply} {t i : Nat}
    (hf : s.Free) (h : own (s.advance t).quiet a = (u.quiet, .held i)) (hu : u.Settled) :
    State.done ((s.advance t).request k (.fits a) own) = .next (u.holding k i) := by
  rw [request_free (free_advance t hf), h]
  show State.done (u.holding k i) = _
  unfold State.done
  rw [finish_settled (holding_settled hu)]

theorem named_zero (s : State) (f : Nat → Load → State × Reply) : s.named 0 f = (s, .plain .badRequest) := rfl

theorem named_unknown {s : State} {g : Tag} {f : Nat → Load → State × Reply} (h0 : g ≠ 0) (hr : s.resolve g = none) :
    s.named g f = (s, .plain .unknownTag) := by unfold State.named; rw [if_neg h0, hr]

theorem named_known {s : State} {g : Tag} {i : Nat} {l : Load} {f : Nat → Load → State × Reply} (h : s.names g i l) :
    s.named g f = f i l := by
  obtain ⟨h0, h1, h2⟩ := h
  unfold State.named; rw [if_neg h0, h1]; dsimp only; rw [h2]

/-- An expected revision that is absent or the record's own lets the request on. -/
theorem expecting_known {s : State} {g : Tag} {i : Nat} {l : Load} {e : Option Nat} {f : Nat → Load → State × Reply}
    (h : s.names g i l) (he : ∀ v, e = some v → v = l.revision) : s.namedExpecting g e f = f i l := by
  unfold State.namedExpecting; rw [named_known h]
  cases e with
  | none => rfl
  | some v => dsimp only; rw [if_pos (he v rfl)]

/-- A load's own tags resolve to its slot where all tags are distinct (R26). -/
theorem resolve_tags {s : State} {i : Nat} {l : Load} {g : Tag} (h : s.TagsDistinct) (hl : s.load i = some l)
    (hg : g ∈ l.tags) : s.resolve g = some i := by
  have hi : i < 40 := by
    cases Nat.lt_or_ge i 40 with
    | inl h => exact h
    | inr h =>
      have : s.load i = none := by
        unfold State.load State.slot vget; rw [dif_neg (Nat.not_lt.mpr h)]; rfl
      rw [this] at hl; cases hl
  have named : ∀ m : Load, m.named g = true ↔ g ∈ m.tags := by
    intro m
    simp only [Load.named, Load.tags, List.mem_cons, Bool.or_eq_true, decide_eq_true_eq, List.contains_iff_mem]
    exact or_congr eq_comm Iff.rfl
  refine List.find?_range_eq_some.mpr ⟨by simp only [hl]; exact (named l).mpr hg, List.mem_range.mpr hi, ?_⟩
  intro j hj
  match hm : s.load j with
  | none => rfl
  | some m =>
    have other : ¬ m.named g = true := fun hc => h.2 i j l m hl hm (Nat.ne_of_gt hj) g hg ((named m).mp hc)
    simpa using other

end Sys2Proof.Machine.Laws
end

