-- ==== Sys2Proof/Laws/Outlets.lean ====
section
/-! SUPPORT. Reads of outlets over the shared writes, the reservation sums (R8), and what claims (R9), releases
(R10) and exchanges (R11) do to them. -/

namespace Sys2Proof.Machine.Laws

/-- Reading an outlet after a write of one. -/
theorem outlet_setOutlet (s : State) (n k : Nat) (o : Outlet) :
    (s.setOutlet n o).outlet k = if index1 n = index1 k ∧ index1 n < 48 then o else s.outlet k := by
  unfold State.setOutlet State.outlet vget vset
  dsimp only
  by_cases h : index1 n < 48 <;> simp [h]
  by_cases h2 : index1 k < 48 <;> simp [h2, Vector.getElem_set]
  intro h3; omega

/-- The reservations that a list of outlets places on a branch. -/
def wsum (s : State) (b : Nat) (l : List Nat) : Nat :=
    (l.map fun n => if branchOf n = b then (s.outlet n).weight else 0).sum

/-- The reservation sum of a branch as a sum of weights. -/
theorem branchSum_eq (s : State) (b : Nat) : s.branchSum b = wsum s b outletNumbers := by
  unfold State.branchSum wsum
  have : ∀ (l : List Nat) (a : Nat),
      l.foldl (fun acc n => if branchOf n = b && (s.outlet n).owned then acc +
      (s.outlet n).reservation else acc) a = a +
      (l.map fun n => if branchOf n = b then (s.outlet n).weight else 0).sum := by
    intro l
    induction l with
    | nil => intro a; simp
    | cons x l ih =>
      intro a
      simp only [List.foldl_cons, List.map_cons, List.sum_cons, ih]
      by_cases h1 : branchOf x = b <;>
        by_cases h2 : (s.outlet x).owned = true <;> simp [h1, h2, Outlet.weight] <;> omega
  simpa using this outletNumbers 0

/-- An outlet number of the strip has an index of its own. -/
theorem index1_inj {n k : Nat} (hn : n ∈ outletNumbers) (h : index1 k = index1 n) : k = n := by
  have : 1 ≤ n ∧ n ≤ 48 := by simp [outletNumbers, List.mem_range'] at hn; omega
  unfold index1 at h
  split at h <;> split at h <;> omega

/-- A write that adds at most `c` to an outlet's weight adds at most `c` to a sum that has the outlet. -/
theorem wsum_set_le (s : State) (b n : Nat) (o : Outlet) (c : Nat) (hw : o.weight ≤ (s.outlet n).weight + c) :
    ∀ l : List Nat, l.Nodup → (∀ k ∈ l, k ∈ outletNumbers) →
      wsum (s.setOutlet n o) b l ≤ wsum s b l + (if branchOf n = b ∧ n ∈ l then c else 0) := by
  intro l
  induction l with
  | nil => intros; simp [wsum]
  | cons x l ih =>
    intro hd hm
    have hx : x ∉ l := (List.nodup_cons.mp hd).1
    have ih := ih (List.nodup_cons.mp hd).2 fun k hk => hm k (List.mem_cons_of_mem _ hk)
    unfold wsum at ih ⊢
    simp only [List.map_cons, List.sum_cons]
    by_cases hn : n = x
    · subst hn
      have : ¬ (n ∈ l) := hx
      simp only [this, and_false, if_false] at ih
      have ho : ((s.setOutlet n o).outlet n).weight ≤ (s.outlet n).weight + c := by
        rw [outlet_setOutlet]; split
        · exact hw
        · omega
      by_cases hb : branchOf n = b
      · simp [hb] at ih ⊢; omega
      · simp [hb] at ih ⊢; omega
    · have ho : (s.setOutlet n o).outlet x = s.outlet x := by
        rw [outlet_setOutlet, if_neg]
        intro h; exact hn (index1_inj (hm x (List.mem_cons_self ..)) h.1)
      rw [ho]
      have e : (n ∈ x :: l) ↔ n ∈ l := by simp [hn]
      simp only [e]; omega

/-- The outlet numbers are distinct. -/
theorem nodup_outlets : outletNumbers.Nodup := by decide

/-- A write that adds at most `c` to an outlet's weight adds at most `c` to its branch's sum alone (R8). -/
theorem branchSum_set_le (s : State) (b n : Nat) (o : Outlet) (c : Nat) (hw : o.weight ≤ (s.outlet n).weight + c) :
    (s.setOutlet n o).branchSum b ≤ s.branchSum b + (if branchOf n = b then c else 0) := by
  rw [branchSum_eq, branchSum_eq]
  have := wsum_set_le s b n o c hw outletNumbers nodup_outlets fun _ h => h
  refine Nat.le_trans this ?_
  split <;> split <;> simp_all

/-- Every reservation sum stays inside its ceiling, as an invariant of the shared operations (R8). -/
def ceilInv : Inv where
  holds s := s.WithinCeilings
  outlet s n o h m := by
    intro b hb
    have := branchSum_set_le s b n o 0 (by simpa using m.1)
    have h2 := h b hb
    have : (s.setOutlet n o).branchSum b ≤ s.branchSum b := by split at this <;> omega
    exact Nat.le_trans this h2
  slot _ _ _ h _ := h
  context _ _ h := h
  waitList _ _ h := h
  gates _ _ h := h
  guards _ _ h := h
  ext _ _ h := h
  work _ _ h := h
  link _ _ h _ := h
  flag _ _ h := h
  attn _ h := h
  dequeue _ _ h := h
  enqueue _ _ h _ _ := h

/-- A claim adds at most what its entries place on the branch (R8, R9). -/
theorem take_sum (own : Owner) (b : Nat) : ∀ (es : List OutletRes) (s : State),
    (s.take es own).branchSum b ≤ s.branchSum b + placedOn b es := by
  intro es
  have key : ∀ (es : List OutletRes) (a : Nat),
      es.foldl (fun acc e => if branchOf e.outlet = b then acc + e.res else acc) a = a + placedOn b es := by
    intro es
    induction es with
    | nil => intro a; rfl
    | cons e es ih =>
      intro a
      unfold placedOn at ih ⊢
      simp only [List.foldl_cons]
      rw [ih, ih (if branchOf e.outlet = b then 0 + e.res else 0)]
      split <;> omega
  induction es with
  | nil => intro s; simp [State.take, placedOn]
  | cons e es ih =>
    intro s
    have hb : (s.take (e :: es) own) = ((s.modOutlet e.outlet fun o => { o with owner := own, reservation :=
        e.res }).take es own) := rfl
    have h2 : (s.modOutlet e.outlet fun o => { o with owner := own, reservation :=
        e.res }).branchSum b ≤ s.branchSum b + (if branchOf e.outlet = b then e.res else 0) :=
      branchSum_set_le s b e.outlet { s.outlet e.outlet with owner := own, reservation := e.res } e.res
        (by simp [Outlet.weight]; split <;> omega)
    have h3 : placedOn b (e :: es) = (if branchOf e.outlet = b then e.res else 0) + placedOn b es := by
      have h4 := key (e :: es) 0
      rw [List.foldl_cons, key] at h4
      split at h4 <;> split <;> simp_all
    rw [hb, h3]
    have h1 := ih (s.modOutlet e.outlet fun o => { o with owner := own, reservation := e.res })
    omega

/-- Entries with no outlet on the branch place nothing on it. -/
theorem placed_none (b : Nat) : ∀ es : List OutletRes, (∀ e ∈ es, branchOf e.outlet ≠ b) → placedOn b es = 0 := by
  intro es off
  exact foldl_idle fun e he => if_neg (off e he)

/-- A claim leaves settings and straps as they are. -/
theorem take_settings (own : Owner) : ∀ (es : List OutletRes) (s : State),
      (s.take es own).settings = s.settings ∧ (s.take es own).strap = s.strap := by
  intro es
  induction es with
  | nil => intro s; exact ⟨rfl, rfl⟩
  | cons e es ih => intro s; exact ih (s.modOutlet e.outlet _)

/-- A claim that is not over budget keeps every branch inside its ceiling (R8, R9). -/
theorem take_ceilings (s : State) (es : List OutletRes) (own : Owner) (h : s.WithinCeilings) (ho :
    s.overBudget es = false) : (s.take es own).WithinCeilings := by
  intro b hb
  obtain ⟨h1, h2⟩ := take_settings own es s
  have hb' : b ∈ s.branchesInUse := by
    have : (s.take es own).branchesInUse = s.branchesInUse := by
        unfold State.branchesInUse State.branchInUse State.branchCount; rw [h1, h2]
    rw [← this]; exact hb
  have hc : (s.take es own).ceiling b = s.ceiling b := by simp [State.ceiling, h1]
  rw [hc]
  have hs := take_sum own b es s
  by_cases hx : ∃ e ∈ es, branchOf e.outlet = b
  · obtain ⟨e, he, hbe⟩ := hx
    unfold State.overBudget at ho
    have := (List.any_eq_false.mp ho) e he
    simp [hbe] at this
    omega
  · rw [placed_none b es (fun e he hb => hx ⟨e, he, hb⟩)] at hs
    exact Nat.le_trans hs (h b hb')

/-- Every passed claim keeps the ceilings. -/
theorem ceil_claims : ceilInv.TakesClaims := by
  intro s es own r h hc
  refine take_ceilings s es own h ?_
  unfold State.claimFails at hc
  repeat' split at hc
  all_goals first | (cases hc; done) | (rename_i h6; simpa using h6) 

/-- New reservations leave settings and straps as they are. -/
theorem rereserve_settings : ∀ (es : List OutletRes) (s : State),
      (s.rereserve es).settings = s.settings ∧ (s.rereserve es).strap = s.strap := by
  intro es
  induction es with
  | nil => intro s; exact ⟨rfl, rfl⟩
  | cons e es ih =>
    intro s
    have : s.rereserve (e :: es) = State.rereserve (s.rereserve [e]) es := rfl
    rw [this]
    obtain ⟨h1, h2⟩ := ih (s.rereserve [e])
    rw [h1, h2]
    unfold State.rereserve
    simp only [List.foldl_cons, List.foldl_nil]
    split
    · exact ⟨rfl, rfl⟩
    · split
      · split
        · unfold State.gateDue; split <;> exact ⟨rfl, rfl⟩
        · exact ⟨rfl, rfl⟩
      · exact ⟨rfl, rfl⟩

/-- A due gate leaves every outlet as it is. -/
theorem gateDue_outlet (s : State) (b n : Nat) : (s.gateDue b).outlet n = s.outlet n := by
  unfold State.gateDue; split <;> rfl
/-- A due gate leaves every reservation sum as it is. -/
theorem gateDue_sum (s : State) (b c : Nat) : (s.gateDue b).branchSum c = s.branchSum c := by
  unfold State.gateDue; split <;> rfl

/-- One new reservation: what it does to the sums, and that it leaves the other outlets as they are (R11). -/
theorem reserve_one (s : State) (e : OutletRes) (b : Nat) :
    (branchOf e.outlet ≠ b →
        (s.rereserve [e]).branchSum b ≤ s.branchSum b) ∧ (e.res ≤ (s.outlet e.outlet).reservation →
        (s.rereserve [e]).branchSum b ≤ s.branchSum b) ∧
    (∀ n, n ∈ outletNumbers → n ≠ e.outlet → (s.rereserve [e]).outlet n = s.outlet n) := by
  unfold State.rereserve
  simp only [List.foldl_cons, List.foldl_nil]
  split
  · exact ⟨fun _ => Nat.le_refl _, fun _ => Nat.le_refl _, fun _ _ _ => rfl⟩
  · have k1 : branchOf e.outlet ≠ b → (s.modOutlet e.outlet fun o => { o with reservation :=
      e.res }).branchSum b ≤ s.branchSum b := by
      intro hb
      have := branchSum_set_le s b e.outlet { s.outlet e.outlet with reservation :=
          e.res } e.res (by simp [Outlet.weight]; split <;> omega)
      simpa [hb] using this
    have k2 : e.res ≤ (s.outlet e.outlet).reservation →
        (s.modOutlet e.outlet fun o => { o with reservation := e.res }).branchSum b ≤ s.branchSum b := by
      intro hb
      have := branchSum_set_le s b e.outlet { s.outlet e.outlet with reservation :=
          e.res } 0 (by simp [Outlet.weight, Outlet.owned, Outlet.isFree]; split <;> omega)
      simpa using this
    have k3 : ∀ n, n ∈ outletNumbers → n ≠ e.outlet → (s.modOutlet e.outlet fun o => { o with reservation :=
        e.res }).outlet n = s.outlet n := by
      intro n hn hne
      unfold State.modOutlet
      rw [outlet_setOutlet, if_neg]
      intro h; exact hne (index1_inj hn h.1).symm
    split
    · split
      · exact ⟨fun h => by rw [gateDue_sum]; exact k1 h, fun h => by rw [gateDue_sum]; exact k2 h,
          fun n h1 h2 => by rw [gateDue_outlet]; exact k3 n h1 h2⟩
      · exact ⟨k1, k2, k3⟩
    · exact ⟨k1, k2, k3⟩

/-- A number that names no outlet reads a cold outlet. -/
theorem cold_out (s : State) {n : Nat} (h : n ∉ outletNumbers) : s.outlet n = Outlet.cold := by
  have : ¬ index1 n < 48 := by
    simp [outletNumbers, List.mem_range'] at h
    unfold index1; split
    · omega
    · have := h (n - 1); omega
  unfold State.outlet vget; rw [dif_neg this]

/-- New reservations that do not rise on a branch do not raise its sum. -/
theorem rereserve_sum (b : Nat) : ∀ (es : List OutletRes) (s : State), (es.map (·.outlet)).Nodup →
    (∀ e ∈ es, branchOf e.outlet = b → e.res ≤ (s.outlet e.outlet).reservation) →
        (s.rereserve es).branchSum b ≤ s.branchSum b := by
  intro es
  induction es with
  | nil => intros; exact Nat.le_refl _
  | cons e es ih =>
    intro s hd hr
    have : s.rereserve (e :: es) = State.rereserve (s.rereserve [e]) es := rfl
    rw [this]
    obtain ⟨r1, r2, r3⟩ := reserve_one s e b
    refine Nat.le_trans (ih (s.rereserve [e]) (List.nodup_cons.mp hd).2 ?_) ?_
    · intro x hx hb
      have hne : x.outlet ≠ e.outlet := fun he => (List.nodup_cons.mp hd).1 (by
        have := List.mem_map_of_mem (f := fun x : OutletRes => x.outlet) hx
        rw [he] at this; exact this)
      have := hr x (List.mem_cons_of_mem _ hx) hb
      by_cases hn : x.outlet ∈ outletNumbers
      · rw [r3 _ hn hne]; exact this
      · rw [cold_out _ hn] at this ⊢; exact this
    · by_cases hb : branchOf e.outlet = b
      · exact r2 (hr e (List.mem_cons_self ..) hb)
      · exact r1 hb

/-- A list that names nothing twice has no duplicates. -/
theorem distinct_nodup {α} [DecidableEq α] (l : List α) (h : distinct l = true) : l.Nodup := of_decide_eq_true h


theorem giveUp_settings (s : State) (ns : List Nat) :
    (s.giveUp ns).settings = s.settings ∧ (s.giveUp ns).strap = s.strap := by
  have h : ((framed_settings.inv s.settings).Holds (s.giveUp ns)) := releaseOutlets_steady (withdrawAll_steady rfl)
  have h2 : ((framed_strap.inv s.strap).Holds (s.giveUp ns)) := releaseOutlets_steady (withdrawAll_steady rfl)
  exact ⟨h, h2⟩

/-- The reservation sum of a branch stays at or below a number, as an invariant of the shared operations. -/
def sumInv (b c : Nat) : Inv where
  holds s := s.branchSum b ≤ c
  outlet s n o h m := by
    have := branchSum_set_le s b n o 0 (by simpa using m.1)
    have : (s.setOutlet n o).branchSum b ≤ s.branchSum b := by split at this <;> omega
    exact Nat.le_trans this h
  slot _ _ _ h _ := h
  context _ _ h := h
  waitList _ _ h := h
  gates _ _ h := h
  guards _ _ h := h
  ext _ _ h := h
  work _ _ h := h
  link _ _ h _ := h
  flag _ _ h := h
  attn _ h := h
  dequeue _ _ h := h
  enqueue _ _ h _ _ := h

/-- Notices, latches and moves between load states leave the queue as it is. -/
@[simp] theorem notice_queue (s : State) (i : Nat) (k : Notice) : (s.notice i k).queue = s.queue := by
  unfold State.notice; split <;> rfl

@[simp] theorem latch_queue (s : State) (i : Nat) (take : Bool) : (s.latch i take).queue = s.queue := by
  unfold State.latch; split
  · split
    · rw [notice_queue]; unfold State.bumpRevision; split <;> rfl
    · rfl
  · rfl

@[simp] theorem moveTo_queue (s : State) (i : Nat) (st : LoadState) : (s.moveTo i st).queue = s.queue := by
  unfold State.moveTo; split
  · split
    · rw [latch_queue]; rfl
    · rfl
  · rfl

/-- A load that goes DARK keeps its entries (R129). -/
@[simp] theorem goDark_queue (s : State) (i : Nat) : (s.goDark i).queue = s.queue := by
  unfold State.goDark; rw [notice_queue, moveTo_queue]

/-- A withdrawal leaves every outlet as it is. -/
theorem withdraw_outlet (s : State) (m n : Nat) : (s.withdraw m).outlet n = s.outlet n := by
  unfold State.withdraw; split
  · rw [gateDue_outlet]; rfl
  · rfl
/-- Withdrawals leave every outlet as it is. -/
theorem withdrawAll_outlet (ns : List Nat) (n : Nat) : ∀ s : State, (s.withdrawAll ns).outlet n = s.outlet n := by
  induction ns with
  | nil => intro s; rfl
  | cons m ns ih => intro s; exact (ih (s.withdraw m)).trans (withdraw_outlet s m n)

/-- A write of one outlet leaves the others as they are. -/
theorem set_ne (s : State) {n k : Nat} (o : Outlet) (hn : n ∈ outletNumbers) (hne : n ≠ k) :
    (s.setOutlet k o).outlet n = s.outlet n := by
  rw [outlet_setOutlet, if_neg]; intro h; exact hne (index1_inj hn h.1).symm

/-- A change of the shed lists leaves every outlet as it is. -/
theorem onShed_outlet (s : State) (f) (n : Nat) : (s.onShedLists f).outlet n = s.outlet n := by
  have : ∀ (l : List Nat) (s : State),
      (l.foldl (fun s b => s.setShedList b (f (s.guard b).list)) s).outlet n = s.outlet n := by
    intro l
    induction l with
    | nil => intros; rfl
    | cons b l ih =>
      intro s
      rw [List.foldl_cons, ih]
      unfold State.setShedList; dsimp only; split
      · unfold State.listDue; split <;> rfl
      · rfl
  unfold State.onShedLists
  generalize branchNumbers = l
  have h2 := this l s
  rw [← h2]; rfl

/-- An outlet that leaves its entry leaves the other outlets as they are. -/
theorem leaveShed_ne (s : State) {n k : Nat} (hn : n ∈ outletNumbers) (hne : n ≠ k) :
    (s.leaveShed k).outlet n = s.outlet n := by
  unfold State.leaveShed; split
  · unfold State.modOutlet; rw [set_ne _ _ hn hne, onShed_outlet]
  · rfl

/-- A change of the link leaves every outlet as it is. -/
theorem link_outlet (s : State) (v) (n : Nat) : ({ s with link := v } : State).outlet n = s.outlet n := rfl
/-- The judging of a pending answer at a freeing leaves every outlet as it is. -/
theorem answerFreed_outlet (s : State) (t k n) : (s.answerFreed t k).outlet n = s.outlet n := by
  unfold State.answerFreed
  split
  · rfl
  · split
    · unfold State.settleAnswer; dsimp only; split <;> rfl
    · split
      · rfl
      · unfold State.settleAnswer; dsimp only; split <;> rfl
    · split
      · rfl
      · unfold State.settleAnswer; dsimp only; split <;> rfl

/-- Freeing one outlet leaves the others as they are (R10). -/
theorem free_ne (s : State) {n k : Nat} (hn : n ∈ outletNumbers) (hne : n ≠ k) :
    (s.freeOutlet k).outlet n = s.outlet n := by
  unfold State.freeOutlet; dsimp only
  split
  · rw [answerFreed_outlet]; unfold State.modOutlet; rw [set_ne _ _ hn hne, leaveShed_ne _ hn hne]
  · unfold State.modOutlet; rw [set_ne _ _ hn hne, leaveShed_ne _ hn hne]

/-- An open request leaves the other outlets as they are (R137). -/
theorem openReq_ne (s : State) {n k : Nat} (hn : n ∈ outletNumbers) (hne : n ≠ k) :
    (s.openRequest k).outlet n = s.outlet n := by
  unfold State.openRequest; dsimp only
  split
  · exact withdraw_outlet ..
  · rw [set_ne _ _ hn hne]; exact withdraw_outlet ..
  · split
    · unfold State.startOpen; rw [set_ne _ _ hn hne]; exact withdraw_outlet ..
    · exact withdraw_outlet ..

/-- Releasing one outlet leaves the others as they are (R10). -/
theorem releaseOutlet_ne (s : State) {n k : Nat} (hn : n ∈ outletNumbers) (hne : n ≠ k) :
    (s.releaseOutlet k).outlet n = s.outlet n := by
  unfold State.releaseOutlet; dsimp only
  split
  · rfl
  · split
    · exact free_ne s hn hne
    · rw [openReq_ne _ hn hne, set_ne _ _ hn hne]

/-- A lost closing of a lent outlet leaves every outlet as it is (R194). -/
theorem lentLost_outlet (s : State) (k n) : (s.lentEntryLost k).outlet n = s.outlet n := by
  unfold State.lentEntryLost; split
  · unfold State.raiseLost; split
    · split <;> rfl
    · rfl
  · rfl

/-- A fold whose steps leave an outlet as it is leaves it as it is. -/
theorem foldl_outlet {α} (f : State → α → State) (n : Nat) (l : List α) (s : State)
    (leaves : ∀ s, ∀ a ∈ l, (f s a).outlet n = s.outlet n) : (l.foldl f s).outlet n = s.outlet n :=
  List.foldlRecOn (motive := fun r => r.outlet n = s.outlet n) l f rfl fun r hr a ha => (leaves r a ha).trans hr

/-- An outlet that is not given up stays as it is (R11). -/
theorem giveUp_ne (s : State) (ns : List Nat) {n : Nat} (hn : n ∈ outletNumbers) (h : n ∉ ns) :
    (s.giveUp ns).outlet n = s.outlet n := by
  unfold State.giveUp State.releaseOutlets; dsimp only
  rw [foldl_outlet _ _ _ _ fun s k hk => releaseOutlet_ne s hn (fun e => h (e ▸ hk)),
      foldl_outlet _ _ _ _ fun s k _ => lentLost_outlet s k n,
    withdrawAll_outlet, withdrawAll_outlet]

/-- Giving outlets up raises no reservation sum (R10). -/
theorem giveUp_sum (s : State) (ns : List Nat) (b : Nat) : (s.giveUp ns).branchSum b ≤ s.branchSum b :=
  (releaseOutlets_steady (I :=
      sumInv b (s.branchSum b)) (withdrawAll_steady (Nat.le_refl _)) : (sumInv b _).Holds _)

/-- Every passed exchange keeps the ceilings (R11). -/
theorem ceil_swaps : ceilInv.TakesSwaps := by
  intro s i old new s' h hl he
  unfold State.exchange at he
  dsimp only at he
  have hd : (new.map (·.outlet)).Nodup := by
    simp [localListOk] at hl; exact distinct_nodup _ hl.1.2
  split at he
  · cases he
  · split at he
    · cases he
    · rename_i hc
      split at he
      · cases he
      · rename_i ho
        cases he
        refine modLoad_steady (I := ceilInv) ?_ fun _ q => q
        intro b hb
        obtain ⟨a1, a2⟩ := take_settings (.bound i) (gained old new) ((s.giveUp (givenUp old new)).rereserve
            (kept old new))
        obtain ⟨b1, b2⟩ := rereserve_settings (kept old new) (s.giveUp (givenUp old new))
        obtain ⟨c1, c2⟩ := giveUp_settings s (givenUp old new)
        have hb' : b ∈ s.branchesInUse := by
          have : (((s.giveUp (givenUp old new)).rereserve (kept old new)).take (gained old new)
              (.bound i)).branchesInUse = s.branchesInUse := by
            unfold State.branchesInUse State.branchInUse State.branchCount; rw [a1, a2, b1, b2, c1, c2]
          rw [← this]; exact hb
        have hcl : (((s.giveUp (givenUp old new)).rereserve (kept old new)).take (gained old new)
            (.bound i)).ceiling b = s.ceiling b := by
          unfold State.ceiling; rw [a1, b1, c1]
        have hcl2 : ((s.giveUp (givenUp old new)).rereserve (kept old new)).ceiling b = s.ceiling b := by
          unfold State.ceiling; rw [b1, c1]
        rw [hcl]
        have hs := take_sum (.bound i) b (gained old new) ((s.giveUp (givenUp old new)).rereserve (kept old new))
        refine Nat.le_trans hs ?_
        by_cases hx : ∃ e ∈ gained old new ++ s.raised (kept old new), branchOf e.outlet = b
        · obtain ⟨e, he, hbe⟩ := hx
          have ho' : s.exchangeOver ((s.giveUp (givenUp old new)).rereserve (kept old new)) (gained old new)
              (kept old new) = false := by simpa using ho
          unfold State.exchangeOver at ho'
          have := (List.any_eq_false.mp ho') e he
          simp only [hbe, hcl2, decide_eq_true_eq] at this
          omega
        · have hp : placedOn b (gained old new) = 0 :=
            placed_none b _ fun e he hbe => hx ⟨e, List.mem_append_left _ he, hbe⟩
          rw [hp]
          refine Nat.le_trans (?_ :
              _ ≤ (s.giveUp (givenUp old new)).branchSum b) (Nat.le_trans (giveUp_sum ..) (h b hb'))
          refine rereserve_sum b _ _ ?_ ?_
          · exact hd.sublist ((List.filter_sublist ..).map _)
          · intro e he hbe
            have hnr : e ∉ s.raised (kept old new) := fun hr => hx ⟨e, List.mem_append_right _ hr, hbe⟩
            have hle : e.res ≤ (s.outlet e.outlet).reservation := by
              simp [State.raised, he] at hnr; exact hnr
            by_cases hn : e.outlet ∈ outletNumbers
            · rw [giveUp_ne s _ hn]
              · exact hle
              · intro hg
                simp [givenUp] at hg
                simp [kept] at he
                exact hg.2 e he.1 rfl
            · rw [cold_out _ hn] at hle ⊢; exact hle

/-- A branch whose outlets carry nothing has the sum 0. -/
theorem fold_weight0 (s : State) (b : Nat) (h : ∀ n, (s.outlet n).weight = 0) : s.branchSum b = 0 := by
  rw [branchSum_eq]; unfold wsum
  have : ∀ l : List Nat, (l.map fun n => if branchOf n = b then (s.outlet n).weight else 0).sum = 0 := by
    intro l; induction l with
    | nil => rfl
    | cons x l ih => rw [List.map_cons, List.sum_cons, ih, h]; split <;> rfl
  exact this _

/-- Every outlet is cold at step 2 of the restoration steps, but for its measured voltage (R17). -/
theorem wiped_outlet (s : State) (strap) (n : Nat) :
    ∃ v, (s.wiped strap).outlet n = { Outlet.cold with volts := v } := by
  unfold State.outlet vget
  split
  · rename_i h; exact ⟨(s.outlets[index1 n]).volts, by simp [State.wiped]⟩
  · exact ⟨0, rfl⟩

end Sys2Proof.Machine.Laws
end

