-- ==== Sys2Proof/WellFormed.lean ====
section
/-! DEFINITION. Which commands can occur on the part's connections: operands that name something the strip
can have, and fields that fit the frames that carry them. A command that is not well formed still has a
meaning in the machine (a refusal with BAD_REQUEST, a dropped frame, or no effect), so `wf` guards no
meaning. -/

namespace Sys2Proof

/-- An outlet number of the largest strip (Conventions). -/
def outletNumber (n : Nat) : Bool := 1 ≤ n && n ≤ 48
/-- A Load Table slot number (Conventions). -/
def slotNumber (i : Nat) : Bool := i < 40
/-- A branch number of the largest strip (Conventions). -/
def branchNumber (b : Nat) : Bool := 1 ≤ b && b ≤ 6
/-- A home tag and an order number as a link frame may carry them: both nonzero, the number in a byte
(R181, R215). -/
def linkHeader (tag : Tag) (order : Nat) : Bool := tag != 0 && (1 ≤ order && order ≤ 255)
/-- The fields of a HELLO in range (R181). -/
def helloFields (count rating : Nat) : Bool :=
  (count == 3 || count == 6) && (rating == 10 || rating == 16 || rating == 20 || rating == 32)
/-- One entry of a BIND in range (R181). -/
def bindEntry (e : OutletRes) : Bool := outletNumber e.outlet && (1 ≤ e.res && e.res ≤ 320)
/-- The entries and class of a BIND in range (R181). -/
def bindFields (entries : List OutletRes) (prio : Nat) : Bool :=
  (1 ≤ entries.length && entries.length ≤ 4) && entries.all bindEntry && prio ≤ 3
/-- The kind byte of one of the 23 requests (R205). -/
def requestKindByte (k : Byte) : Bool := 1 ≤ k.toNat && k.toNat ≤ 23
/-- A one-byte operand of a request body. -/
def byteOperand (n : Nat) : Bool := n ≤ 255
/-- An outlet list of a request body: outlet numbers of one byte, reservations of two (as R215 lays out
the same entries in LOOKUP). -/
def listOperand (es : List OutletRes) : Bool := es.all fun e => e.outlet ≤ 255 && e.res ≤ 65535

/-- The check `p` on a body that fits its kind. -/
def Body.fitsAnd {α : Type} (b : Body α) (p : α → Bool) : Bool :=
  match b with
  | .fits a => p a
  | .unfit => true

/-- The command can occur on the part's connections. -/
def Instr.wf : Instr → Bool
  | .coldReset _ size _ _ => size ≤ 7
  | .portReset _ => true
  | .readTransaction _ _ => true
  | .ignoredTransaction _ first => first != 0xC3 && first != 0x5A
  | .badFrame _ bytes => bytes.head? == some 0xC3
  | .overrun _ => true
  | .unknownRequestKind _ kind => !requestKindByte kind
  | .admitLoad _ b => b.fitsAnd fun r => listOperand r.locals && listOperand r.peers
  | .amend _ b => b.fitsAnd fun r => listOperand (r.locals.getD []) && listOperand (r.peers.getD [])
  | .retire _ b => b.fitsAnd fun r => r.expected.getD 0 ≤ 65535
  | .lookup _ _ => true
  | .list _ b => b.fitsAnd byteOperand
  | .pin _ _ => true
  | .aliasAdd _ _ => true
  | .aliasRemove _ _ => true
  | .powerOn _ _ => true
  | .powerOff _ _ => true
  | .cycle _ _ => true
  | .cancel _ _ => true
  | .release _ _ => true
  | .beat _ b => b.fitsAnd fun l => l.length ≤ 62
  | .outlets _ b => b.fitsAnd fun r => byteOperand r.first && byteOperand r.count
  | .revive _ b => b.fitsAnd byteOperand
  | .faults _ _ => true
  | .meter _ _ => true
  | .reclaim _ b => b.fitsAnd fun l => l.all byteOperand
  | .configure _ _ => true
  | .settings _ _ => true
  | .save _ _ => true
  | .saveEnd _ _ => true
  | .attention _ _ => true
  | .notices _ _ => true
  | .bootGraceExpiry _ slot => slotNumber slot
  | .beatDeadlineExpiry _ slot => slotNumber slot
  | .confirmExpiry _ slot => slotNumber slot
  | .dripExpiry _ => true
  | .dwellExpiry _ slot => slotNumber slot
  | .orderDeadlineExpiry _ slot => slotNumber slot
  | .helloSend _ => true
  | .hello _ _ count rating => helloFields count rating
  | .silenceExpiry _ => true
  | .linkFrameDropped _ _ => true
  | .bind _ tag order entries prio => linkHeader tag order && bindFields entries prio
  | .unbind _ tag order => linkHeader tag order
  | .drop _ tag order hold => linkHeader tag order && hold ≤ 65535
  | .raise _ tag order => linkHeader tag order
  | .bound _ tag order => linkHeader tag order
  | .refused _ tag order _ => linkHeader tag order
  | .unbound _ tag order => linkHeader tag order
  | .dropped _ tag order => linkHeader tag order
  | .dropRefused _ tag order => linkHeader tag order
  | .raised _ tag order => linkHeader tag order
  | .raiseFailed _ tag order outlet => linkHeader tag order && outlet ≤ 48
  | .holdDeadlineExpiry _ => true
  | .closeDrive _ n => outletNumber n
  | .closeConfirmed _ n _ => outletNumber n
  | .closeConfirmWindowEnd _ n => outletNumber n
  | .openDrive _ n => outletNumber n
  | .openConfirmed _ n _ _ => outletNumber n
  | .openConfirmWindowEnd _ n => outletNumber n
  | .sensedPositionChange _ n _ => outletNumber n
  | .patrolTick _ => true
  | .windowEnd _ r => r.outlets.all fun o => outletNumber o.outlet
  | .spacingExpiry _ b => branchNumber b
  | .externalShedAssert _ => true
  | .externalShedDeassert _ => true
  | .phaseCrossing _ _ _ _ => true
  | .halfCycleTimeout _ _ => true
  | .missedCrossingCheck _ _ => true
  | .goodRunComplete _ _ => true
  | .firstJudgementLimit _ _ => true
  | .portResetRelease _ => true
  | .linkFrameSent _ => true

end Sys2Proof
end

