-- ==== Sys2Proof/Tests/Slice0.lean ====
section
/-! SUPPORT. The model's own tests: commands that cannot occur are refused by `Instr.wf`; the byte layouts of R215; one
step of every command on a small state; and, for every obligation with hypotheses, a state that meets them. -/

set_option Elab.async false

namespace Sys2Proof.Tests

open Sys2Proof Sys2Proof.Machine

/-! ### Small states -/

/-- The state that a command leads to. -/
def after (c : Instr) (s : State) : State :=
  match exec c s with
  | .next t => t
  | _ => s

/-- A phase in UP and LOCKED, its half-cycles 10.00 ms, its last crossing at 9995.00 ms. -/
def upLine : Line :=
  { Line.cold with
    locked := true, run := 16, halves := List.replicate 16 1000, lastCross := some 999500, state := .up
    expected := 1000500, winLocked := true }

/-- At 10 s: a strip of 6 branches of 16 A, every phase UP, every outlet adopted and open. -/
def live : State :=
  { State.reset with
    now := 1000000
    lines := Vector.replicate 3 upLine
    outlets := Vector.replicate 48 { Outlet.cold with adopted := true, sensed := .dead }
    meter := { State.reset.meter with start := 1000000 }
    patrol := { pointer := 1, next := 1000000 } }

/-- A record as ADMIT creates it, of class 1. -/
def record (tag : Tag) (locals peers : List OutletRes) : Load :=
  newLoad { tag := tag, locals := locals, peers := peers, prio := none, pop := none, watch := none, cycle := none,
            expectedNone := false } 1

/-- A beat policy: every 30 s, 3 beats missed, 300 s of grace. -/
def beats : WatchPolicy := { mode := .beat, interval := 30, miss := 3, span := 60, band := 20, grace := 300 }

/-- The record stands in the slot and has its outlets. -/
def put (i : Nat) (l : Load) (s : State) : State :=
  (s.take l.locals (.bound i)).setSlot i { counter := l.revision, load := some l }

/-- The outlets are closed and LIVE. -/
def closed (ns : List Nat) (s : State) : State :=
  ns.foldl (fun s n => s.modOutlet n fun o => { o with commanded := .closed, sensed := .live, volts := 2300 }) s

/-- Side A with the link UP. -/
def paired (s : State) : State :=
  { s with
    settings := { s.settings with sideOvr := some .a }
    link := { s.link with
      side := .a, presence := .up, announce := some { side := .b, count := 6, rating := 16, moment := 999000 }
      silence := some 1099000, counter := 40, tx := [] } }

/-- A single-feed load: tag 7, outlets 1 and 9. -/
def lamp : Load := record 7 [⟨1, 15⟩, ⟨9, 15⟩] []
/-- A dual-corded load: tag 9, outlet 2, and the partner's outlet 3. -/
def rack : Load := { record 9 [⟨2, 10⟩] [⟨3, 10⟩] with state := .unpowered }

/-- The load in ON, wanted on, with the beat policy in the watch sub-state. -/
def running (l : Load) (w : Watch) : Load :=
  { l with state := .on, wantedOn := true, watchPolicy := some beats, powerTime := some 900000, watch := w }

/-- A watch in LIVE, SUSPECT and BOOT whose timers are due at 10 s. -/
def liveWatch : Watch := { Watch.stopped with sub := .live, beat := some 1000000 }
def suspectWatch : Watch := { Watch.stopped with sub := .suspect, confirm := some 1000000 }
def bootWatch : Watch := { Watch.stopped with sub := .boot, boot := some 1000000 }

/-- The lamp UNPOWERED, and ON with its outlets closed. -/
def lampOff : State := put 0 lamp live
def lampOn (w : Watch) : State := closed [1, 9] (put 0 (running lamp w) live)
/-- The rack UNPOWERED, and ON, with the link UP. -/
def rackOff : State := paired (put 3 rack live)
def rackOn : State := closed [2] (paired (put 3 (running rack liveWatch) live))

/-- An operation in flight on an outlet, its drive due at 10 s or issued then. -/
def moving (n : Nat) (w : Switching) (issued : Option Nat) (s : State) : State :=
  s.modOutlet n fun o => { o with switching := w, drive := some { moment := 1000000, aimed := false, issued := issued } }

/-- A cycle of the load in slot 0 holds context 0. -/
def cycling (l : Load) (p : CyclePhase) (progress : List Nat) (peer : Peer) (s : State) : State :=
  (s.setSlot 0 { counter := 1, load := some { l with state := .cycling, wantedOn := true } }).setContext 0
    (some { slot := 0, phase := p, cause := .hang, order := none, deadline := if p = .dwell then some 1000000 else none,
            progress := progress, peer := peer, pending := none })

/-- The order is outstanding for the record. -/
def ordered (l : Load) (k : OrderKind) (sender : Sender) : Load :=
  { l with order := some { kind := k, number := 39, deadline := 1000000, sender := sender } }

/-- Outlets 3 and 12 are LENT to the tag. -/
def lent (tag : Tag) (s : State) : State := s.take [⟨3, 15⟩, ⟨12, 15⟩] (.lent tag 7 2)

/-! ### Commands that cannot occur -/

theorem test_wf_refuses :
    Instr.wf (.coldReset 0 8 .solo false) = false ∧ Instr.wf (.ignoredTransaction 0 0xC3) = false ∧
    Instr.wf (.ignoredTransaction 0 0x5A) = false ∧ Instr.wf (.badFrame 0 [0x3C]) = false ∧
    Instr.wf (.unknownRequestKind 0 23) = false ∧
    Instr.wf (.admitLoad 0 (.fits { tag := 1, locals := [⟨256, 1⟩], peers := [], prio := none, pop := none, watch := none,
                                    cycle := none, expectedNone := false })) = false ∧
    Instr.wf (.amend 0 (.fits { tag := 1, expected := none, locals := none, peers := some [⟨1, 65536⟩],
                                policy := { prio := none, pop := none, watch := none, cycle := none }
                                undefinedCode := false })) = false ∧
    Instr.wf (.retire 0 (.fits { tag := 1, expected := some 65536 })) = false ∧
    Instr.wf (.list 0 (.fits 256)) = false ∧ Instr.wf (.beat 0 (.fits (List.replicate 63 1))) = false ∧
    Instr.wf (.outlets 0 (.fits { first := 1, count := 256 })) = false ∧ Instr.wf (.revive 0 (.fits 256)) = false ∧
    Instr.wf (.reclaim 0 (.fits [256])) = false := by decide +kernel

theorem test_wf_refuses_slots :
    Instr.wf (.bootGraceExpiry 0 40) = false ∧ Instr.wf (.beatDeadlineExpiry 0 40) = false ∧
    Instr.wf (.confirmExpiry 0 40) = false ∧ Instr.wf (.dwellExpiry 0 40) = false ∧
    Instr.wf (.orderDeadlineExpiry 0 40) = false := by decide +kernel

theorem test_wf_refuses_link :
    Instr.wf (.hello 0 .a 4 16) = false ∧ Instr.wf (.hello 0 .a 6 17) = false ∧
    Instr.wf (.bind 0 1 1 [] 0) = false ∧ Instr.wf (.bind 0 1 1 [⟨49, 1⟩] 0) = false ∧
    Instr.wf (.bind 0 1 1 [⟨1, 321⟩] 0) = false ∧ Instr.wf (.bind 0 1 1 [⟨1, 1⟩] 4) = false ∧
    Instr.wf (.unbind 0 0 1) = false ∧ Instr.wf (.unbind 0 1 0) = false ∧ Instr.wf (.drop 0 1 1 65536) = false ∧
    Instr.wf (.raise 0 1 256) = false ∧ Instr.wf (.bound 0 0 1) = false ∧ Instr.wf (.refused 0 0 1 .outletTaken) = false ∧
    Instr.wf (.unbound 0 1 0) = false ∧ Instr.wf (.dropped 0 0 1) = false ∧ Instr.wf (.dropRefused 0 1 256) = false ∧
    Instr.wf (.raised 0 0 1) = false ∧ Instr.wf (.raiseFailed 0 1 1 49) = false := by decide +kernel

theorem test_wf_refuses_outlets :
    Instr.wf (.closeDrive 0 0) = false ∧ Instr.wf (.closeConfirmed 0 49 0) = false ∧
    Instr.wf (.closeConfirmWindowEnd 0 0) = false ∧ Instr.wf (.openDrive 0 49) = false ∧
    Instr.wf (.openConfirmed 0 0 0 0) = false ∧ Instr.wf (.openConfirmWindowEnd 0 49) = false ∧
    Instr.wf (.sensedPositionChange 0 0 0) = false ∧ Instr.wf (.spacingExpiry 0 7) = false ∧
    Instr.wf (.windowEnd 0 { outlets := [⟨49, 0, 0, 0⟩], volts1 := 0, volts2 := 0, volts3 := 0, order := [] }) = false := by
  decide +kernel

theorem test_wf_allows :
    Instr.wf (.coldReset 0 7 .b true) = true ∧ Instr.wf (.bind 0 1 255 [⟨48, 320⟩] 3) = true ∧
    Instr.wf (.unknownRequestKind 0 24) = true ∧ Instr.wf (.raiseFailed 0 1 1 0) = true ∧
    Instr.wf (.list 0 .unfit) = true := by decide +kernel

/-! ### Byte layouts (R215) -/

/-- The CRC-16 of the digits 1 to 9 under R215's polynomial and starting value. -/
theorem test_crc : crc16 [0x31, 0x32, 0x33, 0x34, 0x35, 0x36, 0x37, 0x38, 0x39] = 0x29B1#16 := by decide +kernel

theorem test_requestFrame :
    (requestFrame 4 [0x2A, 0, 3, 0x10]).take 7 = [0xC3, 4, 4, 0x2A, 0, 3, 0x10] ∧
    (requestFrame 4 [0x2A, 0, 3, 0x10]).length = 9 ∧ badRequestFrame (requestFrame 4 [0x2A, 0, 3, 0x10]) = false ∧
    badRequestFrame ((requestFrame 4 [0x2A, 0, 3, 0x10]).take 8) = true ∧ badRequestFrame [0xC3, 4, 251] = true ∧
    (answerFrame 4 .badFrame []).take 4 = [0x3C, 4, 17, 0] := by decide +kernel

theorem test_linkFrames :
    [LinkFrame.hello .b 6 32, .bind 0x2A000310 255 [⟨3, 15⟩, ⟨48, 320⟩] 3, .bound 1 1, .refused 1 2 .outletFailed,
      .unbind 1 3, .unbound 1 4, .drop 1 5 65535, .dropped 1 6, .dropRefused 1 7, .raise 1 8, .raised 1 9,
      .raiseFailed 1 10 48].all (fun f => LinkFrame.parse f.bytes = some f) = true ∧
    (LinkFrame.drop 0x2A000310 40 80).bytes.take 10 = [0x96, 7, 7, 0x2A, 0, 3, 0x10, 40, 0, 80] ∧
    LinkFrame.parse ((LinkFrame.bound 1 1).bytes ++ [0]) = none ∧ LinkFrame.parse (LinkFrame.bound 0 1).bytes = none := by
  decide +kernel

/-! ### The queue of commands -/

/-- What every command answers. -/
theorem exec_after (c : Instr) (s : State) : exec c s = .next (after c s) := by cases c <;> rfl

/-- The state that a step leads to. -/
def stepped (s : State) : State :=
  match s.pending with
  | [] => s.tick
  | c :: rest => after c { s with pending := rest }

theorem step_stepped (s : State) : step s = .next (stepped s) := by
  unfold step stepped
  cases s.pending with
  | nil => rfl
  | cons c rest => exact exec_after c _

theorem test_step_runs_front :
    (stepped { live with pending := [.patrolTick 1000000, .helloSend 0] }).pending = [.helloSend 0] ∧
    (stepped { live with pending := [.patrolTick 1000000, .helloSend 0] }).patrol.pointer = 2 ∧
    stepped State.reset = { State.reset with now := 1 } := by decide +kernel

theorem test_no_word_spells_a_command :
    decodeTableWord 8 0xFF = none ∧ State.reset.withFetchWord 8 0xFF = State.reset := by decide +kernel

/-- After a first power-up: 6 branches of 16 A, SOLO, CONFIG raised, ATTN_N low. -/
theorem test_reset :
    State.reset.branchCount = 6 ∧ State.reset.rating = 16 ∧ State.reset.side = .solo ∧ State.reset.attnLow = true ∧
    State.reset.ceiling 6 = 128 ∧ State.reset.threshold 1 = 152 ∧
    after (.coldReset 0 0 .solo false) State.reset = State.reset := by decide +kernel

/-! ### One step of every command -/

/-- The answer that stands at the port. -/
def answer (s : State) : Option (Status × AnswerBody) :=
  match s.port.state with
  | .ready a => some (a.status, a.body)
  | _ => none

/-- The state of the load in a slot. -/
def stateOf (s : State) (i : Nat) : Option LoadState := (s.load i).map (·.state)
/-- The watch sub-state of the load in a slot. -/
def subOf (s : State) (i : Nat) : Option WatchSub := (s.load i).map (·.watch.sub)
/-- The position and the switching field of an outlet. -/
def relay (s : State) (n : Nat) : Position × Switching := ((s.outlet n).commanded, (s.outlet n).switching)

/-- R17: a cold reset with no image takes the straps and the defaults, and forgets the loads. -/
theorem test_coldReset :
    let s := after (.coldReset 1000000 3 .b true) rackOn
    s.branchCount = 3 ∧ s.rating = 16 ∧ s.side = .b ∧ s.load 3 = none ∧ s.ext.active = true ∧ s.flags.config = true ∧
    s.now = 1000000 ∧ s.link.tx = [.hello .b 3 16] := by decide +kernel

theorem test_portReset :
    let s := after (.portReset 1000000) { live with port := { live.port with state := .executing .admitLoad 0 } }
    s.port.state = .idle ∧ s.port.prstLow = true ∧
    (after (.portResetRelease 1000000) s).port.prstLow = false := by decide +kernel

theorem test_readTransaction :
    let s := after (.list 1000000 (.fits 0)) lampOff
    (after (.readTransaction 1000000 true) s).port.state = .idle ∧
    (after (.readTransaction 1000000 false) s).port.state = s.port.state ∧
    (after (.readTransaction 1000000 true) live).port.miso = .notReady := by decide +kernel

theorem test_transactions_that_fail :
    (after (.ignoredTransaction 0 0) live).flags.port = true ∧
    answer (after (.badFrame 0 [0xC3, 4, 9]) live) = some (.badFrame, .nothing) ∧
    answer (after (.unknownRequestKind 0 24) live) = some (.badRequest, .nothing) ∧
    (after (.overrun 0) { live with port := { live.port with state := .executing .admitLoad 0 } }).flags.port = true := by
  decide +kernel

/-- R29 to R32: a single-feed ADMIT is answered in its step, a dual-corded one is held for its BIND. -/
theorem test_admit :
    let single := Instr.admitLoad 1000000 (.fits
      { tag := 7, locals := [⟨1, 128⟩], peers := [], prio := some 3, pop := none, watch := none, cycle := none,
        expectedNone := true })
    let dual := Instr.admitLoad 1000000 (.fits
      { tag := 8, locals := [⟨2, 1⟩], peers := [⟨3, 10⟩], prio := some 3, pop := none, watch := none, cycle := none,
        expectedNone := true })
    answer (after single live) = some (.done, .nothing) ∧ (after single live).branchSum 1 = 128 ∧
    (after dual (paired live)).port.state = .executing .admitLoad 0 ∧
    (after dual (paired live)).link.tx = [.bind 8 40 [⟨3, 10⟩] 3] := by decide +kernel

/-- R9, rank 6: one dA above the ceiling is refused. -/
theorem test_admit_over_budget :
    answer (after (.admitLoad 1000000 (.fits
      { tag := 7, locals := [⟨1, 129⟩], peers := [], prio := none, pop := none, watch := none, cycle := none,
        expectedNone := false })) live) = some (.overBudget, .nothing) := by decide +kernel

/-- R34 to R37: a new local list gives up outlet 9, gains outlet 10 and keeps outlet 1. -/
theorem test_amend :
    let s := after (.amend 1000000 (.fits
      { tag := 7, expected := some 1, locals := some [⟨1, 20⟩, ⟨10, 5⟩], peers := none,
        policy := { prio := some 2, pop := none, watch := none, cycle := none }, undefinedCode := false })) lampOff
    answer s = some (.done, .nothing) ∧ (s.outlet 9).owner = .free ∧ (s.outlet 10).owner = .bound 0 ∧
    (s.outlet 1).reservation = 20 ∧ (s.load 0).map (·.revision) = some 2 ∧ (s.load 0).map (·.prio) = some 2 := by
  decide +kernel

/-- R36: a peer list that differs begins with an UNBIND, held. -/
theorem test_amend_peers :
    let s := after (.amend 1000000 (.fits
      { tag := 9, expected := none, locals := none, peers := some [],
        policy := { prio := none, pop := none, watch := none, cycle := none }, undefinedCode := false })) rackOff
    s.port.state = .executing .amend 3 ∧ stateOf s 3 = some .retiring ∧ s.link.tx = [.unbind 9 40] := by decide +kernel

theorem test_retire :
    let s := after (.retire 1000000 (.fits { tag := 7, expected := none })) lampOff
    answer s = some (.done, .nothing) ∧ s.load 0 = none ∧ (s.outlet 1).owner = .free ∧
    (after (.retire 1000000 (.fits { tag := 9, expected := none })) rackOff).link.tx = [.unbind 9 40] := by decide +kernel

/-- R215: the 92 bytes of a record with every field set, written out. -/
theorem test_lookup :
    let l : Load :=
      { record 0x01020304 [⟨1, 15⟩, ⟨9, 300⟩] [⟨3, 10⟩] with
        revision := 258, state := .quarantined, qReason := some .outletFailed, wantedOn := true, pinned := true
        watchPolicy := some { mode := .flat, interval := 3600, miss := 15, span := 1800, band := 200, grace := 3599 }
        cyclePolicy := { dwell := 120, auto := true, threshold := 14, action := .turnOff }
        strikes := 13, notices := 0x1005, prio := 3, pop := .last, aliases := [0x0A0B0C0D]
        lastOutcome := some { outcome := .failed .peerLost, cause := .request }, powerTime := some 100000
        staged := some { prio := some 2, pop := some .on, watch := some .remove
                         cycle := some { dwell := 1, auto := false, threshold := 2, action := .leaveOn } } }
    answer (after (.lookup 1000000 (.fits 0x0A0B0C0D)) (put 5 l live)) = some (.done, .lookup (
      [5, 1, 2, 3, 4, 1, 2, 0xF3, 7, 0, 0, 2, 3, 2, 13, 0x10, 5] ++
      [1, 0x0E, 0x10, 15, 7, 8, 200, 0x0E, 0x0F] ++ [120, 1, 14, 1] ++ [2, 4, 2] ++ [0, 0, 3, 0xE8] ++ [2, 1, 1] ++
      [1, 0, 15, 9, 1, 44] ++ List.replicate 6 0 ++ [3, 0, 10] ++ List.replicate 9 0 ++
      [0x0A, 0x0B, 0x0C, 0x0D] ++ List.replicate 8 0 ++ [0x1B] ++ [2, 1] ++ List.replicate 9 0 ++ [1, 0, 2, 0])) := by
  decide +kernel

theorem test_list :
    answer (after (.list 1000000 (.fits 3)) rackOff) =
      some (.done, .list [{ slot := 3, tag := 9, revision := 1, shown :=
        { state := .unpowered, reason := none, phase := .none, watch := .inactive } }] false) ∧
    answer (after (.list 1000000 (.fits 40)) rackOff) = some (.badRequest, .nothing) := by decide +kernel

/-- R43, R49: LIST shows the quarantine reason and the cycle phase. -/
theorem test_list_shows :
    let quarantined := { lamp with state := .quarantined, qReason := some .strikes }
    answer (after (.list 1000000 (.fits 0)) (put 0 quarantined live)) =
      some (.done, .list [{ slot := 0, tag := 7, revision := 1, shown :=
        { state := .quarantined, reason := some .strikes, phase := .none, watch := .inactive } }] false) ∧
    answer (after (.list 1000000 (.fits 0)) (cycling lamp .dwell [] .none lampOff)) =
      some (.done, .list [{ slot := 0, tag := 7, revision := 1, shown :=
        { state := .cycling, reason := none, phase := .dwell, watch := .inactive } }] false) := by decide +kernel

theorem test_pin :
    (after (.pin 1000000 (.fits 7)) lampOff).load 0 = some { lamp with pinned := true } := by decide +kernel

theorem test_aliases :
    let s := after (.aliasAdd 1000000 (.fits { tag := 7, other := 70 })) lampOff
    s.resolve 70 = some 0 ∧
    answer (after (.aliasAdd 1000000 (.fits { tag := 7, other := 7 })) lampOff) = some (.tagInUse, .nothing) ∧
    answer (after (.aliasRemove 1000000 (.fits { tag := 7, other := 70 })) lampOff) = some (.unknownTag, .nothing) := by
  decide +kernel

theorem test_aliasRemove :
    let s := put 0 { lamp with aliases := [70, 71] } live
    (after (.aliasRemove 1000000 (.fits { tag := 71, other := 70 })) s).load 0 = some { lamp with aliases := [71] } := by
  decide +kernel

/-- R51, R52, R122: outlet 1 is granted at once, outlet 9 on another branch too; the load is STARTING. -/
theorem test_powerOn :
    let s := after (.powerOn 1000000 (.fits 7)) lampOff
    answer s = some (.done, .nothing) ∧ stateOf s 0 = some .starting ∧ relay s 1 = (.closed, .closing) ∧
    relay s 9 = (.closed, .closing) ∧ s.queue = [] ∧ (s.gate 1).closing = some 1 ∧
    (s.outlet 1).drive = some { moment := 1000700, aimed := true, issued := none } := by decide +kernel

theorem test_powerOff :
    let s := after (.powerOff 1000000 (.fits 7)) (lampOn liveWatch)
    stateOf s 0 = some .stopping ∧ relay s 1 = (.opened, .opening) ∧
    (after (.powerOff 1000000 (.fits 9)) rackOn).link.tx = [.drop 9 40 0] := by decide +kernel

/-- R94, R95: the hold limit is the off dwell, the raise answer limit and 10 s. -/
theorem test_cycle :
    let s := after (.cycle 1000000 (.fits 9)) rackOn
    stateOf s 3 = some .cycling ∧ s.link.tx = [.drop 9 40 80] ∧ relay s 2 = (.opened, .opening) ∧
    (s.context 0).map (·.cause) = some .request := by decide +kernel

/-- R108: CANCEL in DWELL begins CLOSING with CANCELLED pending. -/
theorem test_cancel :
    let s := after (.cancel 1000000 (.fits 7)) (cycling lamp .dwell [] .none lampOff)
    (s.context 0).map (fun c => (c.phase, c.pending)) = some (.closing, some .cancelled) ∧
    relay s 1 = (.closed, .closing) := by decide +kernel

theorem test_release :
    stateOf (after (.release 1000000 (.fits 7))
      (put 0 { lamp with state := .quarantined, qReason := some .strikes, strikes := 3 } live)) 0 = some .unpowered ∧
    answer (after (.release 1000000 (.fits 7)) lampOff) = some (.wrongState, .nothing) := by decide +kernel

/-- R72: a beat in LIVE restarts the deadline at 30 s times 3. -/
theorem test_beat :
    let s := after (.beat 1000000 (.fits [7, 8])) (lampOn liveWatch)
    answer s = some (.done, .beat 1 1) ∧ (s.load 0).map (·.watch.beat) = some (some 10000000) := by decide +kernel

theorem test_outlets :
    (match answer (after (.outlets 1000000 (.fits { first := 48, count := 8 })) live) with
      | some (.done, .outlets v) => decide (v.outlets.length = 1 ∧ v.branches.length = 6)
      | _ => false) = true ∧
    answer (after (.outlets 1000000 (.fits { first := 49, count := 1 })) live) = some (.badRequest, .nothing) := by
  decide +kernel

theorem test_revive :
    ((after (.revive 1000000 (.fits 4)) (live.modOutlet 4 fun o => { o with service := .failed, faults := 3 })).outlet
      4).service = .inService := by decide +kernel

theorem test_faults :
    let c : Capture := { outlet := 4, kind := .welded, ownerTag := 0, current := 12 }
    let s := after (.faults 1000000 (.fits true)) { live with capture := some c, more := true }
    answer s = some (.done, .faults (some c) true) ∧ s.capture = none ∧ s.more = false := by decide +kernel

/-- R164: the clear option empties the totals of the range alone. -/
theorem test_meter :
    let s := (live.modOutlet 1 fun o => { o with energy := 5, residue := 7 }).modOutlet 3 fun o => { o with energy := 6 }
    let t := after (.meter 1000000 (.fits { selectors := [.range 1 2], clear := true })) s
    (t.outlet 1).energy = 0 ∧ (t.outlet 1).residue = 0 ∧ (t.outlet 3).energy = 6 ∧
    answer (after (.meter 1000000 (.fits { selectors := [.branch 1], clear := true })) s) =
      some (.badRequest, .nothing) := by decide +kernel

/-- R197: an open outlet is freed at once, a closed one releases through its open. -/
theorem test_reclaim :
    let s := after (.reclaim 1000000 (.fits [3, 12])) (closed [12] (lent 9 live))
    (s.outlet 3).owner = .free ∧ (s.outlet 12).releasing = true ∧ relay s 12 = (.opened, .opening) := by decide +kernel

theorem test_configure :
    (after (.configure 1000000 (.fits [.branchCount (some 3), .rating (some 32)])) live).ceiling 3 = 256 ∧
    answer (after (.configure 1000000 (.fits [.rating (some 32)])) lampOff) = some (.locked, .nothing) ∧
    answer (after (.configure 1000000 (.fits [.nominal 2771])) live) = some (.badRequest, .nothing) := by decide +kernel

/-- R10, R14: outlet 25, still releasing when it leaves use, is freed there, and can be claimed once it is back. -/
theorem test_configure_frees_releasing :
    let s := live.modOutlet 25 fun o =>
      { o with owner := .bound 0, reservation := 9, releasing := true, switching := .opening, sensed := .live }
    let t := after (.configure 1000000 (.fits [.branchCount (some 3)])) s
    let u := after (.configure 1000000 (.fits [.branchCount none])) t
    s.claimFails [⟨25, 9⟩] false = some .taken ∧ (t.outlet 25).owner = .free ∧ (t.outlet 25).releasing = false ∧
    (t.outlet 25).reservation = 0 ∧ relay t 25 = (.opened, .idle) ∧ u.inUse 25 = true ∧
    u.claimFails [⟨25, 9⟩] false = none := by decide +kernel

/-- R13: a threshold out of its range is refused before the lock of the geometry. -/
theorem test_configure_threshold :
    answer (after (.configure 1000000 (.fits [.rating (some 16), .threshold 1 161])) lampOff) =
      some (.badRequest, .nothing) ∧
    answer (after (.configure 1000000 (.fits [.rating (some 16), .threshold 1 127])) lampOff) =
      some (.badRequest, .nothing) ∧
    answer (after (.configure 1000000 (.fits [.rating (some 16), .threshold 1 160])) lampOff) =
      some (.locked, .nothing) := by decide +kernel

theorem test_settings :
    answer (after (.settings 1000000 (.fits ())) rackOff) = some (.done, rackOff.settingsBody) ∧
    (match rackOff.settingsBody with
      | .settings v => decide (v.side = .a ∧ v.sideOverridden = true ∧ (v.branches.map (·.sum)) = [10, 0, 0, 0, 0, 0])
      | _ => false) = true := by decide +kernel

theorem test_save :
    let s := after (.save 1000000 (.fits ())) lampOff
    s.store.writing = some lampOff.snapshot ∧ answer (after (.save 1000000 (.fits ())) s) = some (.busy, .nothing) := by
  decide +kernel

theorem test_saveEnd :
    let s := after (.saveEnd 1000000 true) { lampOff with store := { lampOff.store with writing := some lampOff.snapshot } }
    s.store.image = some lampOff.snapshot ∧ s.store.lastSave = .done ∧ s.flags.saveDone = true ∧
    stateOf (after (.coldReset 1000000 0 .solo false) s) 0 = some .unpowered := by decide +kernel

theorem test_attention :
    let s := after (.attention 1000000 (.fits ())) live
    live.attnLow = true ∧ s.attnLow = false ∧ s.flags = Flags.none := by decide +kernel

theorem test_notices :
    let s := put 0 { lamp with notices := 5 } live
    answer (after (.notices 1000000 (.fits ())) s) =
      some (.done, .notices [{ slot := 0, tag := 7, set := 5 }] false) ∧
    (after (.notices 1000000 (.fits ())) s).load 0 = some lamp := by decide +kernel

/-- R71, R82: boot grace ends in a cycle with cause BOOT_EXPIRY. -/
theorem test_bootGraceExpiry :
    let s := after (.bootGraceExpiry 1000000 0) (lampOn bootWatch)
    stateOf s 0 = some .cycling ∧ (s.context 0).map (·.cause) = some .bootExpiry ∧
    (s.load 0).map (·.strikes) = some 1 := by decide +kernel

theorem test_beatDeadlineExpiry :
    let s := after (.beatDeadlineExpiry 1000000 0) (lampOn liveWatch)
    subOf s 0 = some .suspect ∧ (s.load 0).map (·.watch.confirm) = some (some 4000000) := by decide +kernel

/-- R73, R82: with 2 strikes of 3 the third hang quarantines. -/
theorem test_confirmExpiry :
    let s := put 0 { running lamp suspectWatch with strikes := 2 } live
    stateOf (after (.confirmExpiry 1000000 0) s) 0 = some .quarantined ∧
    stateOf (after (.confirmExpiry 999999 0) (lampOn suspectWatch)) 0 = some .cycling := by decide +kernel

theorem test_dripExpiry :
    let s := after (.dripExpiry 8640000000) (put 0 { lamp with strikes := 2 } live)
    (s.load 0).map (·.strikes) = some 1 ∧ s.dripStart = 8640000000 := by decide +kernel

theorem test_dwellExpiry :
    let s := after (.dwellExpiry 1000000 0) (cycling lamp .dwell [] .none lampOff)
    (s.context 0).map (·.phase) = some .closing ∧ relay s 1 = (.closed, .closing) := by decide +kernel

theorem test_orderDeadlineExpiry :
    let s := after (.orderDeadlineExpiry 1000000 3) (paired (put 3 (ordered rack .raise .start) live))
    (s.load 3).map (·.order) = some none ∧ (s.load 3).map (fun l => hasNotice l.notices .peerNoAnswer) = some true := by
  decide +kernel

theorem test_helloSend :
    (after (.helloSend 1000000) rackOff).link.tx = [.hello .a 6 16] ∧
    (after (.helloSend 1000000) rackOff).link.nextHello = 50000 := by decide +kernel

/-- R183: the second HELLO of the opposite side brings the link UP; one of the same side is a mismatch. -/
theorem test_hello :
    let s := { paired live with link := { (paired live).link with presence := .joining } }
    (after (.hello 1000000 .b 6 16) s).link.presence = .up ∧ (after (.hello 1000000 .a 6 16) s).link.presence = .mismatch := by
  decide +kernel

/-- R14, R182 to R184: a changed side is the link's at the next HELLO made, which judges the presence again. -/
theorem test_helloSend_side :
    let s := { paired live with settings := { live.settings with sideOvr := some .b } }
    (after (.hello 1000000 .b 6 16) s).link.presence = .up ∧
    (after (.helloSend 1000000) s).link.presence = .mismatch ∧ (after (.helloSend 1000000) s).link.side = .b ∧
    (after (.helloSend 1000000) s).link.tx = [.hello .b 6 16] := by decide +kernel

theorem test_silenceExpiry :
    let s := after (.silenceExpiry 1099000) rackOff
    s.link.presence = .down ∧ s.flags.peer = true ∧ (after (.silenceExpiry 1098999) rackOff).link.presence = .up := by
  decide +kernel

theorem test_linkFrameDropped :
    after (.linkFrameDropped 1000000 [1]) rackOff = rackOff ∧
    (after (.linkFrameSent 1000000) { rackOff with link := { rackOff.link with tx := [.bound 1 1, .bound 1 2] } }).link.tx =
      [.bound 1 2] := by decide +kernel

theorem test_bind :
    let s := after (.bind 1000000 9 7 [⟨3, 15⟩, ⟨12, 15⟩] 2) (paired live)
    (s.outlet 3).owner = .lent 9 7 2 ∧ s.link.tx = [.bound 9 7] ∧
    (after (.bind 1000000 9 8 [⟨4, 1⟩] 2) (paired (lent 9 live))).link.tx = [.refused 9 8 .outletTaken] := by decide +kernel

theorem test_unbind :
    (after (.unbind 1000000 9 8) (paired (lent 9 live))).link.tx = [.unbound 9 8] ∧
    (after (.unbind 1000000 9 8) (paired (closed [3] (lent 9 live)))).link.tx = [] := by decide +kernel

theorem test_drop :
    let s := after (.drop 1000000 9 8 80) (paired (closed [3] (lent 9 live)))
    relay s 3 = (.opened, .opening) ∧ (s.outlet 3).dropHold = some { deadline := some 9000000 } ∧
    s.link.answers.map (·.awaited) = [[3]] ∧
    (after (.drop 1000000 9 8 0) (paired live)).link.tx = [.dropRefused 9 8] := by decide +kernel

theorem test_raise :
    let s := after (.raise 1000000 9 8) (paired (lent 9 live))
    relay s 3 = (.closed, .closing) ∧ s.link.answers.map (·.awaited) = [[3, 12]] ∧
    (after (.raise 1000000 9 8) (paired live)).link.tx = [.raiseFailed 9 8 0] := by decide +kernel

theorem test_bound :
    let s := { paired (put 3 { ordered rack .bind .admission with state := .admitting } live) with
      port := { live.port with state := .executing .admitLoad 3 } }
    answer (after (.bound 1000000 9 39) s) = some (.done, .nothing) ∧
    stateOf (after (.bound 1000000 9 39) s) 3 = some .unpowered ∧ after (.bound 1000000 9 38) s = s := by decide +kernel

theorem test_refused :
    let s := { paired (put 3 { ordered rack .bind .admission with state := .admitting } live) with
      port := { live.port with state := .executing .admitLoad 3 } }
    answer (after (.refused 1000000 9 39 .overBudget) s) = some (.peerRefused, .reason .overBudget) ∧
    (after (.refused 1000000 9 39 .overBudget) s).load 3 = none := by decide +kernel

theorem test_unbound :
    (after (.unbound 1000000 9 39) (paired (put 3 { ordered rack .unbind .retire with state := .retiring } live))).load 3 =
      none := by decide +kernel

theorem test_dropped :
    let s := cycling (ordered rack .drop .cycle) .opening [2] .asked (paired (put 0 rack live))
    ((after (.dropped 1000000 9 39) s).context 0).map (fun c => (c.phase, c.deadline)) = some (.dwell, some 2000000) := by
  decide +kernel

theorem test_dropRefused :
    let s := cycling (ordered rack .drop .cycle) .opening [2] .asked (paired (put 0 rack live))
    ((after (.dropRefused 1000000 9 39) s).context 0).map (fun c => (c.phase, c.pending)) =
      some (.closing, some (.failed .peerRefused)) := by decide +kernel

/-- R105, R106: the answer settles the cycle: DONE, and the load is ON. -/
theorem test_raised :
    let s := closed [2] (cycling (ordered rack .raise .cycle) .closing [2] .asked (paired (put 0 rack live)))
    let t := after (.raised 1000000 9 39) s
    stateOf t 0 = some .on ∧ t.context 0 = none ∧
    (t.load 0).map (·.lastOutcome) = some (some { outcome := .done, cause := .hang }) := by decide +kernel

theorem test_raiseFailed :
    let s := paired (put 3 { ordered rack .raise .start with state := .starting } live)
    let t := after (.raiseFailed 1000000 9 39 3) s
    stateOf t 3 = some .on ∧ (t.load 3).map (fun l => hasNotice l.notices .outletFault) = some true := by decide +kernel

theorem test_holdDeadlineExpiry :
    let s := (lent 9 live).modOutlet 3 fun o => { o with dropHold := some { deadline := some 1000000 } }
    let t := after (.holdDeadlineExpiry 1000000) s
    (t.outlet 3).dropHold = none ∧ relay t 3 = (.closed, .closing) ∧ relay t 12 = (.opened, .idle) := by decide +kernel

theorem test_closeDrive :
    let s := after (.closeDrive 1000000 1) (moving 1 .closing none (lampOn liveWatch))
    (s.outlet 1).drive = some { moment := 1000000, aimed := false, issued := some 1000000 } ∧
    (s.gate 1).lastDrive = some 1000000 := by decide +kernel

/-- R136, R54: the last close of a start completes it. -/
theorem test_closeConfirmed :
    let s := moving 1 .closing (some 999000) (closed [1, 9] (put 0 { running lamp Watch.stopped with state := .starting } live))
    let t := after (.closeConfirmed 1000000 1 1150) s
    stateOf t 0 = some .on ∧ subOf t 0 = some .boot ∧ relay t 1 = (.closed, .idle) ∧ (t.outlet 1).ops = 1 ∧
    relay (after (.closeConfirmed 1000000 1 1149) s) 1 = (.closed, .closing) := by decide +kernel

/-- R136: a close window that ends on a DEAD outlet is a NO_CLOSE, one that ends on a LIVE outlet a confirmation. -/
theorem test_closeConfirmWindowEnd :
    let s := moving 1 .closing (some 995000) (lampOn liveWatch)
    let dead := s.modOutlet 1 fun o => { o with sensed := .dead }
    let t := after (.closeConfirmWindowEnd 1000000 1) dead
    relay t 1 = (.opened, .idle) ∧ (t.outlet 1).faults = 1 ∧ t.capture.map (·.kind) = some .noClose ∧
    after (.closeConfirmWindowEnd 1000000 1) (moving 1 .closing (some 995001) s) =
      moving 1 .closing (some 995001) s ∧
    relay (after (.closeConfirmWindowEnd 1000000 1) s) 1 = (.closed, .idle) ∧
    ((after (.closeConfirmWindowEnd 1000000 1) s).outlet 1).ops = 1 ∧
    (after (.closeConfirmWindowEnd 1000000 1) s).capture = none := by decide +kernel

theorem test_openDrive :
    ((after (.openDrive 1000000 1) (moving 1 .opening none live)).outlet 1).drive =
      some { moment := 1000000, aimed := false, issued := some 1000000 } := by decide +kernel

theorem test_openConfirmed :
    let s := moving 1 .opening (some 999000) (put 0 { lamp with state := .stopping } live)
    stateOf (after (.openConfirmed 1000000 1 0 4) s) 0 = some .unpowered ∧
    stateOf (after (.openConfirmed 1000000 1 0 5) s) 0 = some .stopping := by decide +kernel

/-- R147: the third fault takes the outlet out of service. -/
theorem test_openConfirmWindowEnd :
    let s := (moving 1 .opening (some 995000) lampOff).modOutlet 1 fun o => { o with faults := 2, sensed := .live }
    let t := after (.openConfirmWindowEnd 1000000 1) s
    (t.outlet 1).service = .failed ∧ (t.outlet 1).driftHeld = true ∧
    t.capture = some { outlet := 1, kind := .welded, ownerTag := 7, current := 0 } := by decide +kernel

theorem test_sensedPositionChange :
    ((after (.sensedPositionChange 1000000 1 1150) live).outlet 1).sensed = .live ∧
    ((after (.sensedPositionChange 1000000 1 1149) live).outlet 1).sensed = .dead := by decide +kernel

/-- R144: outlet 2, open but LIVE, is recorded for a recheck. -/
theorem test_patrolTick :
    let s := after (.patrolTick 1000000) (live.modOutlet 2 fun o => { o with sensed := .live })
    s.patrol = { pointer := 2, next := 1100000 } ∧
    (s.outlet 2).recheck = some { found := .live, moment := 1000000, driven := false } := by decide +kernel

/-- R154, R155: 180 W over 200 ms is 1 centiwatt-hour, and the branch current the outlets' sum. -/
theorem test_windowEnd :
    let r : WindowReading :=
      { outlets := [⟨1, 500, 180, 0⟩, ⟨8, 7, -3, 0⟩], volts1 := 2300, volts2 := 2310, volts3 := 2320, order := [] }
    let s := after (.windowEnd 1020000 r) live
    (s.outlet 1).energy = 1 ∧ (s.outlet 1).residue = 0 ∧ (s.outlet 8).power = 0 ∧ s.branchCurrent 1 = 507 ∧
    (s.line .l3).volts = 2320 ∧ s.meter.number = 1 := by decide +kernel

/-- R166: the fifth window end above the threshold trips the guard, which sheds the lamp. -/
theorem test_windowEnd_trips :
    let s := (lampOn liveWatch).modGuard 1 fun g => { g with overCount := 4 }
    let r : WindowReading := { outlets := [⟨1, 1521, 0, 0⟩], volts1 := 2300, volts2 := 2300, volts3 := 2300, order := [] }
    let t := after (.windowEnd 1020000 r) s
    (t.guard 1).state = .shedding ∧ (t.guard 1).settle = some 0 ∧ stateOf t 0 = some .shed ∧
    relay t 9 = (.opened, .opening) ∧ t.flags.branchGuard = true := by decide +kernel

/-- R119: the head waits for its branch's spacing, and is granted when it has elapsed. -/
theorem test_spacingExpiry :
    let s := ({ lampOff with
      queue := [{ outlet := 1, owner := .bound 0, prio := 1, cause := .powerOn, arrival := 0 }] } : State).modGate 1
        fun g => { g with lastDrive := some 950000 }
    relay (after (.spacingExpiry 1000000 1) s) 1 = (.closed, .closing) ∧
    relay (after (.spacingExpiry 999999 1) (s.modGate 1 fun g => { g with lastDrive := some 950001 })) 1 =
      (.opened, .idle) := by decide +kernel

theorem test_externalShedAssert :
    let s := after (.externalShedAssert 1000000) (lampOn liveWatch)
    stateOf s 0 = some .shed ∧ s.ext.active = true ∧
    s.ext.list = [{ victim := .slot 0, kind := .load, outlets := [1, 9] }] := by decide +kernel

theorem test_externalShedDeassert :
    let s := put 0 { lamp with state := .shed } { live with
      ext := { active := true, cls := some 1, list := [{ victim := .slot 0, kind := .load, outlets := [1, 9] }] } }
    let t := after (.externalShedDeassert 1000000) s
    stateOf t 0 = some .starting ∧ t.ext.active = false ∧ t.ext.list = [] := by decide +kernel

/-- R159: a peak below 70 % of the nominal peak loses the phase, and the lamp's outlet 1 with it. -/
theorem test_phaseCrossing :
    let s := after (.phaseCrossing 1000500 .l1 2300 2276) (lampOn liveWatch)
    let t := after (.phaseCrossing 1000500 .l1 2300 2277) (lampOn liveWatch)
    (s.line .l1).state = .lost ∧ relay s 1 = (.opened, .idle) ∧ (s.outlet 1).lineLost = true ∧
    stateOf s 0 = some .dark ∧ (t.line .l1).state = .up ∧ (t.line .l1).expected = 1001500 := by decide +kernel

theorem test_halfCycleTimeout :
    ((after (.halfCycleTimeout 1000611 .l2) live).line .l2).locked = false ∧
    ((after (.halfCycleTimeout 1000610 .l2) live).line .l2).locked = true := by decide +kernel

theorem test_missedCrossingCheck :
    let s := live.modLine .l2 fun l => { l with missed := 2 }
    ((after (.missedCrossingCheck 1000600 .l2) live).line .l2).missed = 1 ∧
    ((after (.missedCrossingCheck 1000600 .l2) s).line .l2).state = .lost := by decide +kernel

/-- R179: at the return of its phase a line-lost load is started again. -/
theorem test_goodRunComplete :
    let s := put 0 { lamp with state := .dark, wantedOn := true } (live.modLine .l1 fun l =>
      { l with state := .lost, goodRun := some 800000 })
    let t := after (.goodRunComplete 1000000 .l1) ((s.modOutlet 1 fun o => { o with lineLost := true }).modOutlet 9 fun o =>
      { o with lineLost := true })
    (t.line .l1).state = .up ∧ stateOf t 0 = some .starting ∧ relay t 1 = (.closed, .closing) := by decide +kernel

theorem test_firstJudgementLimit :
    let s := after (.firstJudgementLimit 300000 .l3) State.reset
    (s.line .l3).state = .lost ∧ (s.outlet 48).adopted = true ∧
    ((after (.firstJudgementLimit 299999 .l3) State.reset).line .l3).state = .unknown := by decide +kernel

/-! ### States that meet the hypotheses of the obligations, clause by clause -/

/-- Whether a record's local outlets are its own. -/
def ownsLocals (s : State) (i : Nat) : Bool :=
  match s.load i with
  | none => true
  | some l => l.locals.all fun e =>
    (s.outlet e.outlet).owner = .bound i && (s.outlet e.outlet).reservation = e.res && !(s.outlet e.outlet).releasing

theorem slot_lt {s : State} {i : Nat} {l : Load} (h : s.load i = some l) : i < 40 := by
  cases Nat.lt_or_ge i 40 with
  | inl h => exact h
  | inr hi => simp [State.load, State.slot, vget, Nat.not_lt.mpr hi, Slot.empty] at h

theorem listsOwned_of {s : State} (h : (List.range 40).all (ownsLocals s) = true) : s.ListsOwned := by
  intro i l hl e he
  have h1 := List.all_eq_true.mp h i (List.mem_range.mpr (slot_lt hl))
  unfold ownsLocals at h1
  rw [hl] at h1
  have h2 := List.all_eq_true.mp h1 e he
  simpa [and_assoc] using h2

/-- The tags of the record in a slot. -/
def tagsIn (s : State) (i : Nat) : List Tag := ((s.load i).map Load.tags).getD []

/-- Whether the tags of two records have nothing in common. -/
def tagsApart (s : State) (i : Nat) : Bool :=
  decide ((tagsIn s i).Nodup) && (tagsIn s i).all (fun g => g != 0) &&
    (List.range 40).all fun j => decide (i = j) || (tagsIn s i).all fun g => !(tagsIn s j).contains g

theorem tagsDistinct_of {s : State} (h : (List.range 40).all (tagsApart s) = true) : s.TagsDistinct := by
  have one : ∀ i l, s.load i = some l → tagsApart s i = true := fun i l hl =>
    List.all_eq_true.mp h i (List.mem_range.mpr (slot_lt hl))
  have tags : ∀ i l, s.load i = some l → tagsIn s i = l.tags := fun i l hl => by simp [tagsIn, hl]
  refine ⟨fun i l hl => ?_, fun i j l m hl hm hij g hg => ?_⟩
  · have h1 := one i l hl
    simp only [tagsApart, Bool.and_eq_true, decide_eq_true_eq, tags i l hl] at h1
    exact ⟨h1.1.1, fun g hg => by simpa using List.all_eq_true.mp h1.1.2 g hg⟩
  · have h1 := one i l hl
    simp only [tagsApart, Bool.and_eq_true, tags i l hl] at h1
    have h2 := List.all_eq_true.mp h1.2 j (List.mem_range.mpr (slot_lt hm))
    simp only [hij, decide_false, Bool.false_or, tags j m hm] at h2
    simpa using List.all_eq_true.mp h2 g hg

/-- An entry of the lamp's outlet in the queue. -/
def entry (n prio arrival : Nat) : Entry :=
  { outlet := n, owner := .bound 0, prio := prio, cause := .restore, arrival := arrival }

/-- The lamp with its two outlets queued and a command waiting. -/
def busy : State := { lampOff with queue := [entry 9 3 1000000, entry 1 3 1000000], pending := [.powerOff 1000000 (.fits 7)] }

theorem test_witness_step_invariants :
    Next busy (stepped busy) ∧ busy.ListsOwned ∧ busy.TagsDistinct ∧ busy.QueueOrdered ∧ busy.Settled ∧
    busy.WithinCeilings ∧ busy.OutletsInRange ∧ busy.StrikesKept ∧ busy.HalvesKept ∧ busy.PortHeldIdle := by
  refine ⟨step_stepped _, listsOwned_of (by decide +kernel), tagsDistinct_of (by decide +kernel), ?_⟩
  unfold State.QueueOrdered Entry.notAfter; decide +kernel

/-- PRST_N low, for the last clause of StepKeepsRanges. -/
theorem test_witness_port_held :
    (after (.portReset 0) live).PortHeldIdle ∧ (after (.portReset 0) live).port.prstLow = true := by decide +kernel

theorem test_witness_frames :
    let c := Instr.beat 1000000 (.fits [7])
    exec c (lampOn liveWatch) = .next (after c (lampOn liveWatch)) ∧
    exec (.patrolTick 0) live = .next (after (.patrolTick 0) live) ∧ changesSettings c = false ∧ isColdReset c = false ∧
    changesStore c = false ∧ changesCapture c = false ∧ lowersFlags c = false ∧ changesLines c = false ∧
    changesMeter c = false ∧ changesFigures c = false ∧ changesPresence c = false ∧ changesPatrol c = false ∧
    changesDrip c = false ∧ changesPort (.patrolTick 0) = false ∧ live.flags.get .config = true :=
  ⟨exec_after _ _, exec_after _ _, by decide +kernel⟩

/-! The Command Port. -/

/-- The port EXECUTING a held ADMIT, and ANSWER_READY. -/
def held : State := { live with port := { live.port with state := .executing .admitLoad 0 } }
def ready : State := { live with port := { live.port with state := .ready { kind := 1, status := .done, body := .nothing } } }

theorem test_witness_port :
    live.Settled ∧ live.Free ∧ held.Settled ∧ held.port.state ≠ .executing .admitLoad 1 ∧ held.executing = true ∧
    held.port.prstLow = false ∧ writeFrame (.overrun 0) = true ∧ writeFrame (.notices 0 .unfit) = true ∧
    (after (.portReset 0) held).port.prstLow = true ∧ (after (.portReset 0) held).Settled ∧
    (Instr.ignoredTransaction 5 0).time = 5 ∧ ready.Settled ∧ ready.port.prstLow = false ∧
    ready.port.state = .ready { kind := 1, status := .done, body := .nothing } ∧ (0 : Byte) ≠ 0xC3 ∧ (0 : Byte) ≠ 0x5A ∧
    badRequestFrame [0xC3] = true ∧ badRequestFrame [0xC3, 1, 251] = true ∧ 23 < (24 : Byte).toNat := by decide +kernel

/-- R201, R2: what R201 calls a bad frame, and frames that are none. -/
theorem test_witness_UnfitBodiesRefused :
    live.Settled ∧ live.Free ∧ 250 < (251 : Byte).toNat ∧ ([1, 2] : List Byte).length < (4 : Byte).toNat + 2 ∧
    (([0, 0] : List Byte).drop (0 : Byte).toNat).take 2 ≠
      bytes2 (crc16 (4 :: 0 :: ([0, 0] : List Byte).take (0 : Byte).toNat)).toNat ∧
    badRequestFrame [0xC3, 4, 4, 1, 2] = true ∧ badRequestFrame [0xC3, 4, 0, 0, 0] = true ∧ badRequestFrame [] = false ∧
    badRequestFrame [0x5A, 4, 251] = false ∧ answer (after (.badFrame 0 [0x5A, 4, 251]) live) = none ∧
    answer (after (.badFrame 0 [0xC3]) live) = some (.badFrame, .nothing) := by decide +kernel

/-- R200, R203, log 3: an OVERRUN while EXECUTING, and a BAD_FRAME that is no write frame. -/
theorem test_overrun_and_no_frame :
    (after (.overrun 1000000) held).flags.port = true ∧ (after (.overrun 1000000) held).port.state = held.port.state ∧
    after (.badFrame 1000000 [0x5A, 1]) held = held ∧ after (.badFrame 1000000 []) held = held ∧
    writeFrame (.badFrame 0 [0x5A]) = false ∧ writeFrame (.badFrame 0 [0xC3, 4]) = true ∧
    (after (.badFrame 1000000 [0xC3, 4]) held).flags.port = true := by decide +kernel

theorem test_miso_not_ready :
    (List.range 4).map (after (.readTransaction 0 true) held).misoByte = [0x00, 0xEE, 0x00, 0x00] := by decide +kernel
theorem test_miso_answer :
    (List.range 5).map (after (.readTransaction 0 true) ready).misoByte = [0x00, 0x3C, 1, Status.done.code, 0] := by
  decide +kernel

theorem test_witness_not_ready : ∀ a, held.port.state ≠ .ready a := fun _ h => nomatch h

theorem test_witness_unfit : Unfit 0 .admitLoad (.admitLoad 0 .unfit) ∧ Unfit 0 .notices (.notices 0 .unfit) := ⟨.admitLoad, .notices⟩

/-! The Load Table. -/

theorem names_lampOff : lampOff.names 7 0 lamp := by unfold State.names; decide +kernel
theorem names_rackOff : rackOff.names 9 3 rack := by unfold State.names; decide +kernel

/-- The lamp with an alias, and the lamp awaiting adoption. -/
def aliased : State := put 0 { lamp with aliases := [70] } live
def waitingLamp : State := put 0 { lamp with awaiting := true } live

theorem test_witness_NamedRequestsJudged :
    NamesLoad 0 .retire (some 2) (fun g => .retire 0 (.fits { tag := g, expected := some 2 })) ∧
    PowerRequest 0 .cycle (fun g => .cycle 0 (.fits g)) ∧ aliased.TagsDistinct ∧ lampOff.names 7 0 lamp ∧
    waitingLamp.names 7 0 { lamp with awaiting := true } ∧ lampOff.Settled ∧ lampOff.Free ∧ lampOff.resolve 8 = none ∧
    (2 : Nat) ≠ lamp.revision ∧ aliased.load 0 = some { lamp with aliases := [70] } ∧
    (70 : Tag) ∈ ({ lamp with aliases := [70] } : Load).tags ∧ waitingLamp.Settled ∧ waitingLamp.Free := by
  refine ⟨.retire (some 2), .cycle, tagsDistinct_of (by decide +kernel), ?_⟩
  unfold State.names; decide +kernel

/-- R9, rank by rank at the boundary values. -/
theorem test_witness_ClaimJudgedByRanks :
    live.claimFails [⟨48, 160⟩] false = some .budget ∧ live.claimFails [⟨49, 1⟩] false = some .number ∧
    live.claimFails [⟨0, 1⟩] false = some .number ∧ live.claimFails [⟨1, 1⟩, ⟨1, 1⟩] false = some .number ∧
    live.claimFails [⟨1, 0⟩] false = some .range ∧ live.claimFails [⟨1, 161⟩] false = some .range ∧
    State.reset.claimFails [⟨1, 1⟩] false = some .notAdopted ∧ lampOff.claimFails [⟨1, 1⟩] false = some .taken ∧
    (live.modOutlet 1 fun o => { o with service := .failed }).claimFails [⟨1, 1⟩] false = some .failed ∧
    live.claimFails [⟨1, 100⟩, ⟨8, 29⟩] false = some .budget ∧ live.claimFails [⟨1, 100⟩, ⟨8, 28⟩] false = none ∧
    live.claimFails [⟨1, 100⟩, ⟨9, 100⟩] false = none := by decide +kernel

/-- An ADMIT of the lists under a tag. -/
def admitReq (tag : Tag) (locals peers : List OutletRes) (none : Bool) : AdmitReq :=
  { tag := tag, locals := locals, peers := peers, prio := .none, pop := .none, watch := .none, cycle := .none,
    expectedNone := none }

/-- Every slot occupied. -/
def full : State := { live with slots := Vector.replicate 40 { counter := 1, load := some (record 5 [] []) } }

theorem test_witness_AdmitJudgedByRanks :
    admitOk lampOff.rating (admitReq 0 [⟨2, 1⟩] [] false) = false ∧
    admitOk lampOff.rating (admitReq 7 [⟨9, 15⟩, ⟨1, 15⟩] [] false) = true ∧ lampOff.slotOfTag 7 = some 0 ∧
    lampOff.load 0 = some lamp ∧ admitRepeats (admitReq 7 [⟨9, 15⟩, ⟨1, 15⟩] [] false) lamp = true ∧
    admitRepeats (admitReq 7 [⟨1, 14⟩] [] false) lamp = false ∧ (lampOff.resolve 7).isSome ∧
    lampOff.slotOfTag 8 = none ∧ full.Settled ∧ full.Free ∧ full.slotOfTag 8 = none ∧ full.emptySlot = none ∧
    lampOff.link.presence ≠ .up ∧ (admitReq 8 [⟨2, 1⟩] [⟨1, 1⟩] false).peers ≠ [] ∧
    lampOff.claimFails [⟨1, 1⟩] false = some .taken := by decide +kernel

/-- R24, R25: an ADMIT and an AMEND at the bounds of each range and just beyond them. -/
theorem test_ranges_of_requests :
    let es := [⟨1, 160⟩, ⟨2, 1⟩, ⟨3, 1⟩, ⟨4, 1⟩]
    let w : WatchPolicy := { mode := .beat, interval := 3600, miss := 15, span := 10, band := 200, grace := 3600 }
    let c : CyclePolicy := { dwell := 120, auto := true, threshold := 15, action := .leaveOn }
    let good : AdmitReq :=
      { tag := 1, locals := es, peers := [⟨48, 320⟩], prio := some 3, pop := none, watch := some w, cycle := some c
        expectedNone := false }
    let bad := fun (r : AdmitReq) => admitOk 16 r = false
    let amend := fun (p : PolicyChange) => amendOk 16
      { tag := 1, expected := none, locals := none, peers := none, policy := p, undefinedCode := false }
    let no : PolicyChange := { prio := none, pop := none, watch := none, cycle := none }
    admitOk 16 good = true ∧ bad { good with tag := 0 } ∧ bad { good with locals := [] } ∧
    bad { good with locals := ⟨5, 1⟩ :: es } ∧ bad { good with locals := [⟨1, 161⟩] } ∧
    bad { good with locals := [⟨1, 1⟩, ⟨1, 1⟩] } ∧ bad { good with peers := [⟨49, 1⟩] } ∧
    bad { good with peers := [⟨1, 321⟩] } ∧ bad { good with prio := some 4 } ∧
    bad { good with watch := some { w with span := 9 } } ∧ bad { good with watch := some { w with grace := 9 } } ∧
    bad { good with watch := some { w with band := 201 } } ∧ bad { good with watch := some { w with miss := 16 } } ∧
    bad { good with watch := some { w with interval := 0 } } ∧ bad { good with cycle := some { c with dwell := 121 } } ∧
    bad { good with cycle := some { c with threshold := 0 } } ∧ amend no = false ∧
    amend { no with watch := some .remove } = true ∧ amend { no with prio := some 4 } = false ∧
    amend { no with watch := some (.replace { w with band := 0 }) } = false := by decide +kernel

theorem test_witness_AdmitCreatesRecord :
    live.admits (admitReq 8 [⟨2, 1⟩] [] true) ∧ live.emptySlot = some 0 ∧
    (paired live).admits (admitReq 8 [⟨2, 1⟩] [⟨1, 1⟩] true) ∧ (paired live).Settled ∧ (paired live).Free ∧
    (paired live).emptySlot = some 0 := by
  unfold State.admits; decide +kernel

/-- An AMEND of policy fields, lists or both. -/
def amendReq (tag : Tag) (locals peers : Option (List OutletRes)) (prio : Option Nat) : AmendReq :=
  { tag := tag, expected := none, locals := locals, peers := peers,
    policy := { prio := prio, pop := none, watch := none, cycle := none }, undefinedCode := false }

/-- R28, R34: an AMEND with an undefined policy code is judged by its tag and expected revision first, then refused by
rank 1. -/
theorem test_amend_undefined_code :
    let amend := fun (tag : Tag) (expected : Option Nat) => answer (after (.amend 1000000 (.fits
      { amendReq tag none none (some 3) with expected := expected, undefinedCode := true })) rackOff)
    amend 8 none = some (.unknownTag, .nothing) ∧ amend 9 (some 2) = some (.stale, .revision 1) ∧
    amend 9 (some 1) = some (.badRequest, .nothing) := by decide +kernel

theorem test_witness_AmendJudgedByRanks :
    rackOff.Settled ∧ rackOff.Free ∧ rackOff.names 9 3 rack ∧ amendOk rackOff.rating (amendReq 9 none none none) = false ∧
    amendOk rackOff.rating (amendReq 9 none none (some 3)) = true ∧ amendOk rackOff.rating (amendReq 9 none none (some 4)) = false ∧
    amendOk rackOff.rating { amendReq 9 none none (some 3) with undefinedCode := true } = false ∧
    sameEntries rack.peers [] = false ∧ sameOutlets rack.locals [⟨2, 9⟩] = true ∧ sameOutlets rack.locals [⟨4, 9⟩] = false ∧
    Load.stages { lamp with state := .cycling } = true ∧
    Load.stages { running lamp bootWatch with postCycleBoot := true } = true ∧ rack.stages = false ∧
    rack.revision = 1 := by
  unfold State.names; decide +kernel

/-- R34, rank 8, with an AMEND that carries no expected revision. -/
theorem test_witness_exchange_refused :
    rackOff.exchange 3 rack.locals [⟨2, 129⟩] = .error .overBudget ∧
    ∀ v, (amendReq 9 (some [⟨2, 129⟩]) none none).expected = some v → v = 1 := ⟨rfl, fun _ h => nomatch h⟩

/-- Each of R34's refusals from rank 2 on. -/
theorem test_amend_refusals :
    let refusal := fun (l : Load) (r : AmendReq) => (put 3 l live).amendFails r l
    refusal { rack with state := .retiring } (amendReq 9 none none (some 1)) = some .wrongState ∧
    refusal { rack with awaiting := true } (amendReq 9 (some [⟨2, 1⟩]) none none) = some .busy ∧
    refusal { rack with state := .on } (amendReq 9 (some [⟨4, 1⟩]) none none) = some .wrongState ∧
    refusal { rack with state := .cycling } (amendReq 9 (some [⟨2, 1⟩]) none none) = some .wrongState ∧
    refusal rack (amendReq 9 none (some []) none) = some .peerDown ∧
    refusal rack (amendReq 9 none (some rack.peers) none) = none := by decide +kernel

theorem test_witness_AmendCarriedOut :
    rackOff.amendFails (amendReq 9 none none (some 3)) rack = none ∧ rack.stages = false ∧
    (put 0 { lamp with state := .cycling } live).amendFails (amendReq 7 none none (some 3)) { lamp with state := .cycling } = none ∧
    rackOff.amendFails (amendReq 9 none (some rack.peers) none) rack = none ∧ sameEntries rack.peers rack.peers = true ∧
    rackOff.amendFails (amendReq 9 none (some []) none) rack = none ∧
    (paired lampOff).amendFails (amendReq 7 none (some [⟨1, 1⟩]) none) lamp = none ∧ lamp.peers = [] ∧
    sameEntries lamp.peers [⟨1, 1⟩] = false := by decide +kernel

/-- R78: the watch of a load in ON once a watch policy is carried, by its sub-state; and in another state. -/
theorem test_witness_watch_taken_up :
    let flat : WatchPolicy := { beats with mode := .flat }
    let carries := fun (w : WatchChange) => ({ prio := none, pop := none, watch := some w, cycle := none } : PolicyChange)
    let next := fun (sub : WatchSub) (w : WatchChange) =>
      (Load.applied { running lamp { bootWatch with sub := sub } with postCycleBoot := true } (carries w) true 5).watch
    next .inactive (.replace beats) = { Watch.stopped with sub := .boot, boot := some 30000005 } ∧
    next .boot (.replace beats) = { Watch.stopped with sub := .boot, boot := some 30000005 } ∧
    next .live (.replace beats) = { Watch.stopped with sub := .live, beat := some 9000005 } ∧
    next .suspect (.replace flat) = { Watch.stopped with sub := .live } ∧
    next .hung (.replace flat) = { bootWatch with sub := .hung } ∧ next .live .remove = Watch.stopped ∧
    (Load.applied lamp (carries .remove) true 5).watch = lamp.watch ∧
    (Load.applied { running lamp bootWatch with postCycleBoot := true } (carries .remove) true 5).postCycleBoot = false := by
  decide +kernel

theorem test_witness_ExchangeOfLocals :
    lampOff.ListsOwned ∧ (∃ u, lampOff.exchange 0 lamp.locals [⟨1, 20⟩, ⟨10, 5⟩] = .ok u) ∧
    (∀ e ∈ lamp.locals ++ [⟨1, 20⟩, ⟨10, 5⟩], e.outlet ∈ outletNumbers) ∧
    lampOff.amendFails (amendReq 7 (some [⟨1, 20⟩, ⟨10, 5⟩]) none none) lamp = none ∧
    givenUp lamp.locals [⟨1, 20⟩, ⟨10, 5⟩] = [9] ∧
    ((lampOff.modOutlet 9 fun o => { o with switching := .opening }).outlet 9).settledOpen = false ∧
    sameOutlets lamp.locals [⟨9, 1⟩, ⟨1, 15⟩] = true :=
  ⟨listsOwned_of (by decide +kernel), ⟨_, rfl⟩, by decide +kernel⟩

theorem test_witness_RetireJudgedAndCarriedOut :
    (lampOff.ListsOwned ∧ lampOff.TagsDistinct ∧ rackOff.ListsOwned ∧ rackOff.TagsDistinct) ∧ lamp.state = .unpowered ∧
    lamp.peers = [] ∧ (∀ n ∈ lamp.outlets, (lampOff.outlet n).settledOpen = true) ∧ rack.peers ≠ [] ∧
    rackOff.link.presence = .up ∧ (lampOn liveWatch).load 0 = some (running lamp liveWatch) ∧
    (live.retireFails { lamp with pinned := true }) = some .pinned ∧ live.retireFails { lamp with awaiting := true } = some .busy ∧
    (closed [9] live).retireFails lamp = some .wrongState :=
  ⟨⟨listsOwned_of (by decide +kernel), tagsDistinct_of (by decide +kernel), listsOwned_of (by decide +kernel),
    tagsDistinct_of (by decide +kernel)⟩, by decide +kernel⟩

/-- R129: the entry of a QUARANTINED load stays as it goes to RETIRING (log 34), and goes with the record (R10). -/
theorem test_retire_keeps_entry :
    let s : State := { paired (put 3 { rack with state := .quarantined } live) with
      queue := [{ outlet := 2, owner := .bound 3, prio := 1, cause := .cycle, arrival := 0 }] }
    let u := after (.retire 1000000 (.fits { tag := 9, expected := none })) s
    s.hasEntry 2 = true ∧ stateOf u 3 = some .retiring ∧ u.queue = s.queue ∧ (u.outlet 2).settledOpen = true ∧
    (after (.unbound 1000000 9 40) u).hasEntry 2 = false := by decide +kernel

/-- R30: a repeat in another order, and one of another list. -/
theorem test_repeats :
    sameEntries [⟨1, 15⟩, ⟨9, 15⟩] [⟨9, 15⟩, ⟨1, 15⟩] = true ∧ sameEntries [⟨1, 15⟩] [⟨1, 16⟩] = false ∧
    admitRepeats { tag := 7, locals := [⟨9, 15⟩, ⟨1, 15⟩], peers := [], prio := some 1, pop := none, watch := none,
                   cycle := none, expectedNone := false } lamp = true ∧
    ([⟨1, 15⟩, ⟨9, 15⟩] : List OutletRes).Nodup := by decide +kernel

theorem test_witness_PinSetsPinned :
    lamp.state ≠ .cycling ∧ (cycling lamp .opening [] .none lampOff).names 7 0 { lamp with state := .cycling, wantedOn := true } ∧
    (cycling lamp .opening [] .none lampOff).Settled ∧ (cycling lamp .opening [] .none lampOff).Free := by
  unfold State.names; decide +kernel

/-- 64 aliases in the table: 8 records of 8, which no run makes. -/
def manyAliases : State :=
  (List.range 8).foldl (fun s i => s.setSlot (i + 8)
    { counter := 1, load := some { record (BitVec.ofNat 32 (1000 + i)) [] [] with aliases := List.replicate 8 2000 } }) lampOff

theorem test_witness_AliasesAddedAndRemoved :
    lamp.state ≠ .retiring ∧ (lampOff.resolve 7).isSome ∧ lampOff.aliasCount = 0 ∧ lampOff.resolve 70 = none ∧
    manyAliases.aliasCount = 64 ∧ manyAliases.names 7 0 lamp ∧ manyAliases.Settled ∧ manyAliases.Free ∧
    aliased.names 7 0 { lamp with aliases := [70] } ∧ (70 : Tag) ∈ ({ lamp with aliases := [70] } : Load).aliases ∧
    ({ lamp with aliases := [70, 71, 72] } : Load).aliases.length = 3 ∧ (put 0 { lamp with state := .retiring } live).names 7 0
      { lamp with state := .retiring } := by
  unfold State.names; decide +kernel

theorem test_witness_TableIsRead :
    lampOff.names 7 0 lamp ∧ (lampOff.load 0).isSome ∧ full.Free ∧ (put 39 { lamp with notices := 1 } live).load 39 =
      some { lamp with notices := 1 } := ⟨names_lampOff, by decide +kernel⟩

/-! Power requests. -/

theorem test_witness_PowerOnAndOffJudged :
    lampOff.names 7 0 lamp ∧ lamp.awaiting = false ∧ (∃ n ∈ lamp.outlets, (lampOff.outlet n).service ≠ .failed) ∧
    (lampOn liveWatch).names 7 0 (running lamp liveWatch) ∧ (lampOn liveWatch).Settled ∧ (lampOn liveWatch).Free ∧
    (put 0 { lamp with pinned := true } live).names 7 0 { lamp with pinned := true } ∧
    (put 0 { lamp with state := .retiring } live).names 7 0 { lamp with state := .retiring } ∧
    (cycling lamp .dwell [] .none lampOff).names 7 0 { lamp with state := .cycling, wantedOn := true } ∧
    (∀ n ∈ lamp.outlets, ([1, 9].foldl (fun s n => s.modOutlet n fun o => { o with service := .failed }) lampOff |>.outlet
      n).service = .failed) := by
  unfold State.names; decide +kernel

theorem test_witness_StartQueuesOutlets :
    lampOff.load 0 = some lamp ∧ lamp.outlets.Nodup ∧ lampOff.insertable 1 (.bound 0) ∧ lampOff.insertable 9 (.bound 0) ∧
    ((lampOff.modOutlet 9 fun o => { o with service := .failed }).outlet 9).service = .failed ∧
    (live.modLine .l1 fun l => { l with state := .lost }).phaseLost .l1 = true ∧ rackOff.load 3 = some rack ∧
    rackOff.link.presence = .up ∧ (put 3 rack live).load 3 = some rack ∧ (put 3 rack live).link.presence ≠ .up := by
  unfold State.insertable; decide +kernel

theorem test_witness_StopOpensOutlets :
    (lampOn liveWatch).load 0 = some (running lamp liveWatch) ∧ ((lampOn liveWatch).outlet 1).settledOpen = false ∧
    (running lamp liveWatch).staged = none ∧ (∀ n ∈ lamp.outlets, (lampOff.outlet n).settledOpen = true) ∧ lamp.order = none ∧
    rackOn.load 3 = some (running rack liveWatch) ∧ rackOn.link.presence = .up ∧
    (put 3 rack live).link.presence = .down := by decide +kernel

/-- All eight contexts held by other slots. -/
def noContext : State :=
  { lampOn liveWatch with
    contexts := Vector.replicate 8 (some { slot := 30, phase := .opening, cause := .hang, order := none, deadline := none,
                                           progress := [], peer := .none, pending := none }) }

theorem test_witness_CycleRequestBeginsOpening :
    rackOn.Settled ∧ rackOn.Free ∧ rackOn.names 9 3 (running rack liveWatch) ∧ (running rack liveWatch).pinned = false ∧
    rackOn.freeContext = some 0 ∧ (lampOn liveWatch).freeContext = some 0 ∧ noContext.freeContext = none ∧
    noContext.names 7 0 (running lamp liveWatch) ∧ noContext.Settled ∧ noContext.Free ∧
    (put 3 (running rack liveWatch) live).names 9 3 (running rack liveWatch) ∧ (put 3 rack live).link.presence ≠ .up ∧
    ((lampOn liveWatch).modOutlet 9 fun o => { o with service := .failed }).names 7 0 (running lamp liveWatch) := by
  unfold State.names; decide +kernel

/-- A cycle of the rack, in slot 0, in DWELL with the partner's DROP answered; and one of the lamp. -/
def rackDwell : State := cycling rack .dwell [] .answered (paired (put 0 rack live))
def lampDwell : State := cycling lamp .dwell [] .none lampOff

theorem test_witness_ClosingBegins :
    lampDwell.Settled ∧ lampDwell.Free ∧ lampDwell.names 7 0 { lamp with state := .cycling, wantedOn := true } ∧
    lampDwell.waiting 0 = false ∧ lampDwell.contextOf 0 = some 0 ∧ (lampDwell.context 0).map (·.phase) = some .dwell ∧
    (lampDwell.context 0).map (·.deadline) = some (some 1000000) ∧ lampDwell.insertable 1 (.bound 0) ∧
    lampDwell.phaseLost (lampDwell.phaseOf 1) = false ∧ lampDwell.phaseLost (lampDwell.phaseOf 9) = false ∧
    rackDwell.Settled ∧ rackDwell.contextOf 0 = some 0 ∧ (rackDwell.context 0).map (·.peer) = some .answered ∧
    rackDwell.link.presence = .up ∧ rackDwell.insertable 2 (.bound 0) ∧
    rackDwell.names 9 0 { rack with state := .cycling, wantedOn := true } := by
  unfold State.names State.insertable; decide +kernel

/-- R102: CLOSING that cannot begin, for L1 lost under the lamp (with an entry on L2), and under the rack, whose partner
answered; and an answered partner that is not UP. -/
theorem test_witness_closing_abandoned :
    let lose := fun (s : State) => s.modLine .l1 fun l => { l with state := .lost }
    let wide := { lamp with locals := [⟨1, 15⟩, ⟨17, 15⟩] }
    let s : State := { lose (cycling wide .dwell [] .none (put 0 wide live)) with
      queue := [{ outlet := 17, owner := .bound 0, prio := 1, cause := .cycle, arrival := 0 }] }
    let u := after (.cancel 1000000 (.fits 7)) s
    let r := after (.dwellExpiry 1000000 0) (lose rackDwell)
    let down : State := { rackDwell with link := { rackDwell.link with presence := .down } }
    s.Settled ∧ s.waitList = [] ∧ s.phaseLost (s.phaseOf 1) = true ∧ s.phaseLost (s.phaseOf 17) = false ∧
    stateOf u 0 = some .dark ∧ u.context 0 = none ∧ (u.outlet 1).lineLost = true ∧ u.hasEntry 17 = true ∧
    stateOf r 0 = some .on ∧ r.link.tx = [.raise 9 40] ∧ (r.outlet 2).lineLost = true ∧
    ((after (.dwellExpiry 1000000 0) down).context 0).map (fun c => (c.peer, c.pending)) =
      some (.none, some (.failed .peerLost)) := by decide +kernel

/-- The lamp on the wait list. -/
def lampWaiting : State :=
  { put 0 { running lamp Watch.stopped with state := .cycling } live with waitList := [{ slot := 0, cause := .hang }] }

theorem test_witness_CancelOfWaitingLoad :
    lampWaiting.Settled ∧ lampWaiting.Free ∧ lampWaiting.names 7 0 { running lamp Watch.stopped with state := .cycling } ∧
    lampWaiting.waiting 0 = true ∧ ({ running lamp Watch.stopped with state := .cycling } : Load).staged = none := by
  unfold State.names; decide +kernel

/-- A staged amendment that adds a watch policy; the unwatched lamp on the wait list and the lamp in post-cycle BOOT with it. -/
def addsWatch : PolicyChange := { prio := some 3, pop := none, watch := some (.replace beats), cycle := none }
def lampStaged : Load := { lamp with state := .cycling, staged := some addsWatch }
def stagedWaiting : State := { put 0 lampStaged live with waitList := [{ slot := 0, cause := .hang }] }
def lampBoot : Load := { running lamp bootWatch with staged := some addsWatch, postCycleBoot := true }

/-- State, watch, class, revision and staging of slot 0. -/
def latched (s : State) : Option (LoadState × WatchSub × Nat × Nat × Bool) :=
  (s.load 0).map fun l => (l.state, l.watch.sub, l.prio, l.revision, l.staged.isSome)

/-- R39, R60, R80: it latches at a CANCEL and at a beat in WAITING, where the watch is taken up from INACTIVE (log 42). -/
theorem test_witness_staged_latches_in_waiting :
    stagedWaiting.names 7 0 lampStaged ∧ stagedWaiting.Settled ∧ stagedWaiting.Free ∧ stagedWaiting.waiting 0 = true ∧
    lampStaged.staged = some addsWatch ∧
    latched (after (.cancel 1000000 (.fits 7)) stagedWaiting) = some (.on, .boot, 3, 2, false) ∧
    latched (after (.beat 1000000 (.fits [7])) stagedWaiting) = some (.on, .boot, 3, 2, false) := by
  unfold State.names; decide +kernel

/-- R39, R71: it latches at the first beat after a cycle. -/
theorem test_witness_staged_latches_after_cycle :
    (put 0 lampBoot live).names 7 0 lampBoot ∧ (put 0 lampBoot live).Settled ∧
    latched (after (.beat 1000000 (.fits [7])) (put 0 lampBoot live)) = some (.on, .live, 3, 2, false) := by
  unfold State.names; decide +kernel

/-- R87, R93: a freed context passed on: none free, a FAILED outlet, a partner that is not UP, a load that passes. -/
theorem test_witness_passing :
    let w : Waiter := { slot := 0, cause := .hang }
    let failed := lampWaiting.modOutlet 9 fun o => { o with service := .failed }
    let alone := put 0 { rack with state := .cycling, staged := some { prio := some 3, pop := none, watch := none, cycle := none } } live
    noContext.freeContext = none ∧ lampWaiting.freeContext = some 0 ∧ lampWaiting.loadIn 0 .cycling = true ∧
    (failed.outlet 9).service = .failed ∧ stateOf (failed.passOnTo [w]) 0 = some .quarantined ∧
    alone.link.presence ≠ .up ∧ rack.peers ≠ [] ∧ stateOf (alone.passOnTo [w]) 0 = some .stranded ∧
    ((alone.passOnTo [w]).load 0).map (·.prio) = some 3 ∧
    ((lampWaiting.passOnTo [w]).context 0).map (fun c => (c.slot, c.phase)) = some (0, .dwell) ∧
    (paired alone).link.tx = [] ∧ ((paired alone).passOnTo [w]).link.tx = [.drop 9 40 80] ∧
    lampWaiting.contextOf 0 = none ∧ lampDwell.contextOf 0 = some 0 := by decide +kernel

/-- R43: the cycle phase of a waiting load and of one that holds a context. -/
theorem test_witness_lookup_phases :
    lampWaiting.names 7 0 { running lamp Watch.stopped with state := .cycling } ∧
    (∃ w ∈ lampWaiting.waitList, w.slot = 0) ∧ lampDwell.waitList = [] ∧
    (lampDwell.cycleOf 0).map (·.phase) = some .dwell ∧ lamp.state ≠ .cycling := by
  unfold State.names; decide +kernel

/-- The lamp in the state, its outlets closed or open. -/
def lampIn (st : LoadState) (ns : List Nat) : State := closed ns (put 0 { lamp with state := st } live)

theorem test_witness_ReleaseByState :
    (lampIn .quarantined [9]).names 7 0 { lamp with state := .quarantined } ∧ (lampIn .quarantined [9]).Settled ∧
    ((lampIn .quarantined [9]).outlet 9).commanded = .closed ∧
    (∀ n ∈ lamp.outlets, ((lampIn .quarantined []).outlet n).commanded = .opened) ∧
    (lampIn .stranded []).names 7 0 { lamp with state := .stranded } ∧ (lampIn .shed []).names 7 0 { lamp with state := .shed } ∧
    (∀ n ∈ lamp.outlets, ((lampIn .shed []).guard (branchOf n)).state ≠ .shedding) ∧
    (((lampIn .shed []).modGuard 2 fun g => { g with state := .shedding }).guard (branchOf 9)).state = .shedding ∧
    ((lampIn .shed []).modGuard 2 fun g => { g with state := .shedding }).Settled ∧ (lampIn .shed []).Free := by
  unfold State.names; decide +kernel

/-! Beats and watches. -/

theorem test_witness_BeatsTaken :
    (lampOn liveWatch).names 7 0 (running lamp liveWatch) ∧ (running lamp liveWatch).staged = none ∧
    (lampOn bootWatch).names 7 0 (running lamp bootWatch) ∧ (lampOn Watch.stopped).names 7 0 (running lamp Watch.stopped) ∧
    (lampOn suspectWatch).names 7 0 (running lamp suspectWatch) ∧ (lampOn Watch.inHung).names 7 0 (running lamp Watch.inHung) ∧
    (lampIn .stranded []).names 7 0 { lamp with state := .stranded } ∧ lampOff.names 7 0 lamp ∧
    (List.replicate 16 (7 : Tag)).length = 16 ∧ (List.replicate 17 (7 : Tag)).length = 17 := by
  unfold State.names; decide +kernel

theorem test_witness_WatchTimersExpire :
    (lampOn liveWatch).load 0 = some (running lamp liveWatch) ∧ (running lamp liveWatch).watchPolicy = some beats ∧
    liveWatch.beat = some 1000000 ∧ 1000000 ≤ max (lampOn liveWatch).now 0 ∧ suspectWatch.confirm = some 1000000 ∧
    (lampOn suspectWatch).load 0 = some (running lamp suspectWatch) ∧ bootWatch.boot = some 1000000 ∧
    (lampOn bootWatch).load 0 = some (running lamp bootWatch) ∧ (running lamp bootWatch).staged = none ∧
    (put 0 { running lamp bootWatch with staged := some { prio := some 3, pop := none, watch := none, cycle := none },
                                         postCycleBoot := true } live).Settled := by decide +kernel

/-- At 70 s: the lamp ON with outlet 1 closed, under a flat policy of 60 s and 20 W, its outlets drawing 0 W. -/
def flatLamp (mode : WatchMode) (w : Watch) : State :=
  (closed [1] (put 0 { running lamp w with watchPolicy := some { beats with mode := mode } } live)).advance 7000000

/-- A watch with a reference of `ref` W whose span began at `start`. -/
def spanning (sub : WatchSub) (ref : Option Nat) (start : Nat) : Watch :=
  { Watch.stopped with sub := sub, ref := ref, spanStart := start }

/-- R74 to R76, clause by clause: each watch after a window end. -/
theorem test_witness_windows_at_the_watch :
    let next := fun (mode : WatchMode) (w : Watch) => ((flatLamp mode w).watchLoad 0 |>.load 0).map (·.watch)
    (flatLamp .flat liveWatch).phaseUp ((flatLamp .flat liveWatch).phaseOf 1) = true ∧
    next .beat liveWatch = some liveWatch ∧ next .flat (spanning .boot none 0) = some (spanning .boot none 0) ∧
    next .flat (spanning .live none 0) = some (spanning .live (some 0) 7000000) ∧
    next .flat (spanning .live (some 21) 1000000) = some (spanning .live (some 0) 7000000) ∧
    next .beatAndFlat (spanning .suspect (some 21) 1000000) = some (spanning .suspect (some 0) 7000000) ∧
    next .flat (spanning .live (some 20) 1000001) = some (spanning .live (some 20) 1000001) ∧
    next .flat (spanning .live (some 20) 1000000) = some (spanning .suspect none 0) ∧
    next .beatAndFlat (spanning .live (some 20) 1000000) =
      some { spanning .live (some 20) 1000000 with flatSign := true } ∧
    stateOf ((flatLamp .flat (spanning .suspect (some 20) 1000000)).watchLoad 0) 0 = some .cycling ∧
    stateOf ((flatLamp .beatAndFlat (spanning .suspect (some 20) 1000000)).watchLoad 0) 0 = some .cycling ∧
    next .beatAndFlat { spanning .suspect (some 20) 1000000 with confirm := some 1 } =
      some { spanning .suspect (some 20) 1000000 with confirm := some 1, flatSign := true } ∧
    (((lampOn (spanning .live (some 1) 5)).modLine .l1 fun l => { l with state := .lost }).modLine .l2 fun l =>
      { l with state := .lost }).phaseLost .l1 = true := by decide +kernel

theorem test_witness_ConfirmedHangDecided :
    (lampOn suspectWatch).load 0 = some (running lamp suspectWatch) ∧ noContext.load 0 = some (running lamp liveWatch) ∧
    noContext.freeContext = none ∧ rackOn.load 3 = some (running rack liveWatch) ∧
    (put 0 { running lamp liveWatch with strikes := 2 } live).load 0 = some { running lamp liveWatch with strikes := 2 } := by
  decide +kernel

theorem test_witness_DripLowersCounts :
    lampOff.Settled ∧ lampOff.dripStart + lampOff.settings.dripPeriod * 360000000 ≤ max lampOff.now 8640000000 := by
  decide +kernel

/-! Readers, settings and the image. -/

theorem test_witness_ReadRequestsAnswered :
    live.inUse 48 = true ∧ live.inUse 49 = false ∧ (after (.configure 0 (.fits [.branchCount (some 3)])) live).inUse 25 = false ∧
    25 ∈ outletNumbers ∧ live.selectorOk false (.branch 6) = true ∧ live.selectorOk false (.branch 7) = false ∧
    live.selectorOk false (.range 48 8) = true ∧ live.selectorOk false (.range 1 9) = false ∧
    live.selectorOk true (.phase .l1) = false := by decide +kernel

/-- R5, R162: REVIVE of outlets that are none, and METER of a branch and of a phase. -/
theorem test_revive_and_meter_refused :
    answer (after (.revive 1000000 (.fits 0)) live) = some (.badRequest, .nothing) ∧
    answer (after (.revive 1000000 (.fits 49)) live) = some (.badRequest, .nothing) ∧ live.inUse 48 = true ∧
    live.selectorOk false (.branch 0) = false ∧ live.selectorOk true (.branch 1) = false ∧
    live.selectorOk false (.phase .l3) = true := by decide +kernel

/-- One entry of OUTLETS, its branch, one entry of METER and the side in SETTINGS, on a LENT outlet with a hold
(logs 20, 31). -/
theorem test_views :
    let s := ((paired (lent 9 live)).modOutlet 3 fun o => { o with dropHold := some { deadline := some 1000299 } }).modGate 1
      fun g => { g with lastDrive := some 999700 }
    let v := s.outletView 3
    (v.owner, v.reservation, v.held, v.holdLeft, v.branch, v.phase) = (.lent 9 7 2, 15, true, some 2, 1, .l1) ∧
    (busy.outletView 1).entry = some { cause := .restore, prio := 3, owner := .bound 0, position := 1 } ∧
    (s.branchView 1).sinceDrive = some 3 ∧ (s.meterOutlet 3).energy = 0 ∧
    (match s.settingsBody with
      | .settings b => some (b.side, b.sideOverridden, b.count, b.rating, b.announceAge)
      | _ => none) = some (.a, true, 6, 16, some 10) := by decide +kernel

theorem test_witness_SaveWritesSnapshot :
    lampOff.store.writing = none ∧ (after (.save 0 (.fits ())) lampOff).store.writing = some lampOff.snapshot ∧
    (after (.save 0 (.fits ())) lampOff).Settled ∧ lampOff.load 0 = some lamp ∧ lamp.state ≠ .admitting ∧
    ((lent 9 live).outlet 3).owner = .lent 9 7 2 := by decide +kernel

/-- Each of R13's refusals, and settings that pass. -/
theorem test_witness_ConfigureJudgedByRanks :
    let refusal := fun (s : State) cs => s.configureFails (s.under (s.resulting cs)) cs
    refusal live [] = some .badRequest ∧ refusal live [.nominal 2300, .nominal 2300] = some .badRequest ∧
    refusal live [.nominal 999] = some .badRequest ∧ refusal live [.nominal 1000] = none ∧
    refusal (lent 9 live) [.side none] = some .locked ∧ refusal live [.ceiling 1 153] = some .badRequest ∧
    refusal live [.ceiling 1 152] = none ∧ refusal live [.threshold 1 161] = some .badRequest ∧
    refusal live [.ceiling 1 16, .threshold 1 50, .hysteresis 50] = some .badRequest ∧
    refusal lampOff [.ceiling 1 16] = none ∧ refusal rackOff [.ceiling 1 16] = none ∧
    refusal (put 0 (record 7 [⟨1, 17⟩] []) live) [.ceiling 1 16] = some .overBudget ∧
    ([SettingChange.nominal 1000].map settingKey).Nodup := by decide +kernel

/-- Settings carried and not carried, with the geometry kept and changed. -/
theorem test_witness_settings_carried :
    let cs := [SettingChange.threshold 2 155, .restoreMode 1 .manual, .enable .line false, .spacing 7]
    let x := live.under (live.resulting cs)
    let y := x.under (x.resulting [.rating (some 32), .ceiling 3 300])
    (cs.map settingKey).Nodup ∧ x.threshold 2 = 155 ∧ x.threshold 1 = 152 ∧ x.restoreMode 1 = .manual ∧
    x.settings.enables.get .line = false ∧ x.settings.enables.get .peer = true ∧ x.settings.spacing = 7 ∧
    y.ceiling 3 = 300 ∧ y.ceiling 1 = 256 ∧ y.threshold 2 = 304 ∧ y.restoreMode 1 = .auto ∧ y.settings.spacing = 7 := by
  decide +kernel

/-! The image. -/

/-- The part with a valid image of settings, lent entries and records. -/
def stored (m : Snapshot) : State :=
  { live with store := { live.store with content := some m, mark := true, checkOk := true } }

/-- The lamp and a lent entry in an image, and settings out of their ranges. -/
def image : Snapshot := { lampOff.snapshot with lent := [{ outlet := 3, tag := 9, prio := 2, res := 15 }] }
def badImage : Snapshot :=
  { image with
    settings := { image.settings with ceiling := Vector.replicate 6 15, threshold := Vector.replicate 6 161, hysteresis := 152 }
    lent := [{ outlet := 49, tag := 9, prio := 2, res := 15 }]
    records := image.records.map fun r => { r with slot := 40 } }

theorem test_witness_ColdResetRestores :
    let good := after (.coldReset 0 0 .solo false) (stored image)
    let bad := after (.coldReset 0 0 .solo false) (stored badImage)
    State.reset.store.image = none ∧ (stored image).store.image = some image ∧ good.flags.config = false ∧
    (good.outlet 3).owner = .lent 9 0 2 ∧ (good.load 0).map (·.tag) = some 7 ∧ (good.outlet 1).owner = .bound 0 ∧
    bad.flags.config = true ∧ bad.ceiling 1 = 128 ∧ bad.threshold 1 = 152 ∧ bad.settings.hysteresis = 10 ∧
    bad.load 0 = none ∧ (bad.outlet 3).owner = .free ∧
    (after (.coldReset 0 0 .solo false) (stored { image with lent := [{ outlet := 1, tag := 9, prio := 2, res := 1 }] })).load 0 =
      none := by decide +kernel

/-! The queue and the relays. -/

theorem test_witness_InsertionByRows :
    busy.hasEntry 1 = true ∧ live.inUse 49 = false ∧ (State.reset.outlet 1).adopted = false ∧
    ((lampOff.modOutlet 1 fun o => { o with service := .failed }).outlet 1).owner = .bound 0 ∧
    ((lampOn liveWatch).outlet 1).commanded = .closed ∧ lampOff.insertable 1 (.bound 0) ∧
    ((lampOff.modLine .l1 fun l => { l with state := .lost }).phaseLost (lampOff.phaseOf 1)) = true ∧
    busy.queue.Pairwise Entry.notAfter ∧ ∀ e ∈ busy.queue, e.arrival ≤ busy.now := by
  unfold State.insertable Entry.notAfter; decide +kernel

/-- The lamp's outlet 1 at the head of branch 1, whose spacing ends at 10 s. -/
def spacedLamp : State :=
  ({ lampOff with queue := [entry 1 1 0] } : State).modGate 1 fun g => { g with lastDrive := some 950000 }

theorem test_witness_SpacingExpiryJudgesGate :
    spacedLamp.Settled ∧ spacedLamp.HalvesKept ∧ 1 ∈ spacedLamp.branchesInUse ∧ (spacedLamp.gate 1).lastDrive = some 950000 ∧
    950000 + spacedLamp.settings.spacing * 100 ≤ max spacedLamp.now 0 ∧ spacedLamp.head 1 = some (entry 1 1 0) ∧
    spacedLamp.gateFails 1 (entry 1 1 0) = .none ∧ (spacedLamp.outlet 1).service = .inService ∧
    (moving 1 .opening none spacedLamp).gateFails 1 (entry 1 1 0) = .outletBusy ∧
    (spacedLamp.modGate 1 fun g => { g with closing := some 2 }).gateFails 1 (entry 1 1 0) = .closeInFlight ∧
    (spacedLamp.modGuard 1 fun g => { g with state := .hold }).gateFails 1 (entry 1 1 0) = .guard ∧
    ({ spacedLamp with meter := { spacedLamp.meter with branch := Vector.replicate 6 1371 } } : State).gateFails 1
      (entry 1 1 0) = .headroom ∧
    ({ spacedLamp with meter := { spacedLamp.meter with branch := Vector.replicate 6 1370 } } : State).gateFails 1
      (entry 1 1 0) = .none ∧
    (lampOff.modGate 1 fun g => { g with lastDrive := some 950000 }).head 1 = none := by decide +kernel

theorem test_witness_OpenRequestByRows :
    busy.HalvesKept ∧ 48 ∈ outletNumbers ∧ ((moving 1 .opening none live).outlet 1).switching = .opening ∧
    ((moving 1 .closing none live).outlet 1).switching = .closing ∧ ((closed [1] live).outlet 1).switching = .idle := by
  decide +kernel

theorem test_witness_DrivesSensingAndPatrol :
    (moving 1 .closing none (lampOn liveWatch)).Settled ∧
    ((moving 1 .closing none live).outlet 1).drive = some { moment := 1000000, aimed := false, issued := none } ∧
    ((moving 1 .opening none live).outlet 1).switching = .opening ∧ live.patrol.next ≤ max live.now 0 := by decide +kernel

/-- An aimed operation in flight, its drive issued 50 ms before 10 s. -/
def aimed (w : Switching) (p : Position) : State :=
  lampOff.modOutlet 1 fun o =>
    { o with commanded := p, switching := w, drive := some { moment := 995000, aimed := true, issued := some 995000 } }

theorem test_witness_ConfirmationsEndOperations :
    (aimed .closing .closed).Settled ∧ (aimed .closing .closed).inUse 1 = true ∧
    (aimed .closing .closed).phaseUp ((aimed .closing .closed).phaseOf 1) = true ∧
    ((aimed .closing .closed).outlet 1).drive = some { moment := 995000, aimed := true, issued := some 995000 } ∧
    max (aimed .closing .closed).now 0 ≤ 995000 + 5000 ∧ (aimed .closing .closed).settings.nominal ≤ 2 * 1150 ∧
    ((aimed .opening .opened).outlet 1).switching = .opening ∧ 2 * 1149 < (aimed .opening .opened).settings.nominal := by
  decide +kernel

theorem test_witness_ConfirmWindowsEndInFaults :
    995000 + 5000 ≤ max (aimed .closing .closed).now 0 ∧ (aimed .closing .closed).settings.faultThreshold = 3 ∧
    (((aimed .closing .closed).modOutlet 1 fun o => { o with faults := 2 }).outlet 1).service = .inService ∧
    ((aimed .opening .opened).outlet 1).faults = 0 := by decide +kernel

/-- R136: the close whose window ends on a LIVE and on a DEAD outlet; R145: rechecks that are DRIFT, that fail the
outlet, and that are none. -/
theorem test_witness_rechecks :
    let found := fun (s : State) => s.modOutlet 1 fun o =>
      { o with recheck := some { found := .live, moment := 0, driven := false }, sensed := .live }
    let s := found lampOff
    let third := fun (s : State) => s.modOutlet 1 fun o => { o with faults := 2 }
    let undriven := third (found (moving 1 .closing none (lampOn liveWatch)))
    ((aimed .closing .closed).outlet 1).sensed ≠ .live ∧
    (((aimed .closing .closed).modOutlet 1 fun o => { o with sensed := .live }).outlet 1).sensed = .live ∧
    (lampOff.outlet 1).recheck = none ∧ lampOff.judgeRecheck 1 = lampOff ∧
    s.phaseUp (s.phaseOf 1) = true ∧ ((s.judgeRecheck 1).outlet 1).faults = 1 ∧
    (((s.modOutlet 1 fun o => { o with sensed := .dead }).judgeRecheck 1).outlet 1).faults = 0 ∧
    (((third { s with queue := [entry 1 1 0] }).judgeRecheck 1).outlet 1).service = .failed ∧
    (third { s with queue := [entry 1 1 0] }).hasEntry 1 = true ∧
    ((undriven.judgeRecheck 1).outlet 1).commanded = .opened ∧ (undriven.outlet 1).commanded = .closed ∧
    (((third s).judgeRecheck 1).outlet 1).service = .failed := by decide +kernel

/-! The owners of operations. -/

/-- A cycle of the lamp in a phase with an outlet settled or not, and the end of an operation of outlet 1. -/
theorem test_witness_cycles_told :
    let cyc := fun p ns => (cycling lamp p ns .none lampOff)
    let phaseOf := fun (s : State) => (s.context 0).map (·.phase)
    phaseOf ((cyc .opening [9]).told 1 .openConfirmed) = some .dwell ∧
    phaseOf ((cyc .opening []).told 1 .openConfirmed) = some .opening ∧
    phaseOf ((cyc .opening []).told 1 .noClose) = some .closing ∧ (cyc .opening []).insertable 9 (.bound 0) ∧
    phaseOf ((cyc .opening []).told 1 .welded) = some .closing ∧
    phaseOf ((cyc .opening [1]).told 1 .drift) = some .closing ∧ (cyc .opening []).told 1 .drift = cyc .opening [] ∧
    phaseOf ((cyc .dwell []).told 1 .drift) = some .closing ∧
    stateOf ((cyc .closing [9]).told 1 .closeConfirmed) 0 = some .on ∧
    phaseOf ((cyc .closing []).told 1 .noClose) = some .closing ∧
    ((cyc .closing []).told 1 .welded |>.context 0).map (·.pending) = some (some (.failed .outletFault)) ∧
    stateOf (((cyc .closing [9]).modOutlet 1 fun o => { o with service := .failed }).told 1 .drift) 0 = some .on ∧
    ((cyc .closing [9]).load 0).map (·.state) = some .cycling ∧ (cyc .closing [9]).waitList = [] := by
  unfold State.insertable; decide +kernel

/-- R54, R58: a start and a stop judged when outlet 1's operation ends. -/
theorem test_witness_starts_and_stops_told :
    stateOf ((lampIn .starting [1]).told 1 .closeConfirmed) 0 = some .on ∧
    stateOf ((lampIn .starting []).told 1 .noClose) 0 = some .unpowered ∧
    stateOf (((lampIn .starting []).modOutlet 1 fun o => { o with service := .failed }).modOutlet 9 (fun o =>
      { o with lineLost := true }) |>.told 1 .welded) 0 = some .dark ∧
    (lampIn .starting []).told 1 .lineLoss = lampIn .starting [] ∧
    stateOf ((moving 9 .closing none (lampIn .starting [9])).told 1 .closeConfirmed) 0 = some .starting ∧
    stateOf ((lampIn .stopping []).told 1 .openConfirmed) 0 = some .unpowered ∧
    stateOf ((lampIn .stopping [9]).told 1 .openConfirmed) 0 = some .stopping ∧
    (lampIn .on [1]).told 1 .welded = lampIn .on [1] ∧
    ({ lampIn .cycling [] with waitList := [{ slot := 0, cause := .hang }] } : State).contextOf 0 = none := by decide +kernel

/-- A lending with an answer that awaits outlets. -/
def awaited (kind : AnswerKind) (ns reopen : List Nat) : State :=
  let s := paired (lent 9 live)
  { s with link := { s.link with answers := [{ tag := 9, kind := kind, order := 8, awaited := ns, reopen := reopen }] } }

/-- R10, R194: a releasing outlet is freed; the pending answers of a lending; and the pending open after a close. -/
theorem test_witness_lendings_told :
    let releasing := (lent 9 live).modOutlet 3 fun o => { o with releasing := true }
    let pend := fun (s : State) => s.modOutlet 3 fun o => { o with pendingOpen := true }
    ((releasing.told 3 .welded).outlet 3).owner = .free ∧ releasing.told 3 .noClose = releasing ∧
    (live.outlet 3).owner = .free ∧ (lent 9 live).answerOf 9 = none ∧
    ((awaited .dropped [3] []).told 3 .openConfirmed).link.tx = [.dropped 9 8] ∧
    ((awaited .dropped [3, 12] []).told 3 .lineLoss).link.answers.map (·.awaited) = [[12]] ∧
    ((awaited .dropped [3] []).told 3 .welded).link.answers = [] ∧
    ((awaited .raised [3] []).told 3 .closeConfirmed).link.tx = [.raised 9 8] ∧
    (awaited .raised [3] [3]).told 3 .closeConfirmed = awaited .raised [3] [3] ∧
    ((awaited .raised [3, 12] []).told 3 .cancelled).link.tx = [.raiseFailed 9 8 3] ∧
    (awaited .raised [12] []).told 3 .noClose = awaited .raised [12] [] ∧
    (lampOff.outlet 1).pendingOpen = false ∧
    ((pend (closed [3] (awaited .raised [3] [3]))).pendingAfterClose 3).hasEntry 3 = true ∧
    ((pend (lent 9 live)).pendingAfterNone 3 |>.outlet 3).pendingOpen = false := by decide +kernel

/-- R191, R194: what goes out when a releasing outlet that an answer awaits is freed, the last of its lending or not. -/
theorem test_witness_freed_answers :
    let freeing := fun (k : AnswerKind) (ns : List Nat) =>
      ((awaited k ns []).modOutlet 3 fun o => { o with releasing := true }).told 3 .openConfirmed
    let last := fun (k : AnswerKind) =>
      ([3, 12].foldl (fun s n => s.modOutlet n fun o => { o with releasing := true }) (awaited k [3] [])).told 3 .welded
    (freeing .unbound [3]).link.tx = [.unbound 9 8] ∧ (freeing .unbound [3, 12]).link.answers.map (·.awaited) = [[12]] ∧
    (freeing .dropped [3]).link.tx = [.dropped 9 8] ∧ (last .dropped).link.tx = [.dropRefused 9 8] ∧
    (last .raised).link.tx = [.raiseFailed 9 8 0] ∧ (last .unbound).link.tx = [.unbound 9 8] ∧
    (awaited .raised [12] []).told 3 .openConfirmed = awaited .raised [12] [] := by decide +kernel

/-- R194: a RECLAIM of outlets that a RAISED awaits, one of them with an entry, and of one that a DROPPED awaits. -/
theorem test_witness_reclaim_answers :
    let queued : State := { awaited .raised [3, 12] [] with
      queue := [{ outlet := 12, owner := .lent 9 7 2, prio := 2, cause := .peerRaise, arrival := 0 }] }
    let s := closed [3] (awaited .dropped [3] [])
    (after (.reclaim 1000000 (.fits [3, 12])) queued).link.tx = [.raiseFailed 9 8 12] ∧
    (after (.reclaim 1000000 (.fits [3, 12])) queued).answerOf 9 = none ∧ (s.outlet 3).settledOpen = false ∧
    (after (.reclaim 1000000 (.fits [3])) s).answerOf 9 = s.answerOf 9 ∧ (s.answerOf 9).isSome := by decide +kernel

/-- R139: the rows of its table. -/
theorem test_learn :
    learn 8 13 = 10 ∧ learn 10 13 = 11 ∧ learn 11 9 = 10 ∧ learn 10 11 = 11 ∧ learn 12 24 = 12 ∧ learn 12 20 = 14 ∧
    learn 3 2 = 2 ∧ learn 5 1 = 5 := by decide +kernel

/-! Metering and line state. -/

theorem test_witness_WindowFiguresFormed :
    live.Settled ∧ live.meter.locked = false ∧ live.meter.start + 20000 ≤ max live.now 1020000 ∧
    (let s : State := { live with meter := { live.meter with locked := true, crossings := 20 } }
     s.Settled ∧ 20 ≤ s.meter.crossings) := by decide +kernel

/-- R155: the current and the frequency of a phase at 50 Hz and with no half-cycle in the window. -/
theorem test_witness_phase_figures :
    let s := live.modLine .l1 fun l => { l with winSum := 20000, winCount := 20 }
    let u := (s.advance 1020000).formWindow
      { outlets := [⟨1, 70, 0, 0⟩, ⟨9, 30, 0, 0⟩], volts1 := 2300, volts2 := 2300, volts3 := 2300, order := [] }
    (u.line .l1).freq = 5000 ∧ (u.line .l2).freq = 0 ∧ u.branchCurrent 1 = 70 ∧ u.branchCurrent 2 = 30 ∧
    ((s.branchesOn .l1).map u.branchCurrent).sum = (u.line .l1).current := by decide +kernel

/-- Half-cycles at their limits, a crossing within 1 ms of the expected one and one that is not, and the check. -/
theorem test_witness_crossings :
    let at1 := fun (t : Nat) (s : State) => (after (.phaseCrossing t .l1 2300 2277) s).line .l1
    let missed := live.modLine .l1 fun l => { l with missed := 1, prevExpected := some 1000000, expected := 1001000 }
    (live.line .l1).lastCross = some 999500 ∧ 49 * (live.settings.nominal * live.settings.nominal) ≤ 50 * (2277 * 2277) ∧
    (at1 1000269 live).winCount = 1 ∧ (at1 1000268 live).winCount = 0 ∧ (at1 1000611 live).locked = true ∧
    (at1 1000612 live).locked = false ∧ (at1 1000100 missed).missed = 0 ∧ (at1 1000101 missed).missed = 1 ∧
    (at1 1000900 missed).missed = 0 ∧ (State.reset.line .l1).state ≠ .up ∧ (State.reset.line .l1).lastCross = none ∧
    17 * live.settings.nominal ≤ 20 * 1955 ∧ 20 * 1954 < 17 * live.settings.nominal ∧ 999500 + 1111 ≤ max live.now 1000611 ∧
    (live.line .l1).timedOut = false ∧ max live.now 1000610 < 999500 + 1111 := by
  decide +kernel

theorem test_witness_LineStateJudged :
    (live.line .l1).state = .up ∧ 50 * (2276 * 2276) < 49 * (live.settings.nominal * live.settings.nominal) ∧
    (live.line .l1).expected + 100 ≤ max live.now 1000600 ∧ (live.line .l1).missed < 2 ∧
    ((live.modLine .l1 fun l => { l with missed := 2 }).line .l1).missed = 2 ∧ live.waitList = [] ∧
    (State.reset.line .l1).state = .unknown ∧ State.reset.restoredAt + 300000 ≤ max State.reset.now 300000 ∧
    (let s := live.modLine .l2 fun l => { l with state := .lost, goodRun := some 800000 }
     s.Settled ∧ (s.line .l2).goodRun = some 800000 ∧ 800000 + 200000 ≤ max s.now 0) := by decide +kernel

/-- R20: a load at its cold-start decision, by its outlets and its power-on policy, and one that is not decided yet. -/
theorem test_witness_cold_start :
    let s := fun (pop : PowerOnPolicy) => put 0 { lamp with awaiting := true, pop := pop } live
    let lose := fun (ns : List Nat) (s : State) => ns.foldl (fun s n => s.modOutlet n fun o => { o with lineLost := true }) s
    let becomes := fun (s : State) => stateOf s.decideAll 0
    let pending := (s .on).modOutlet 9 fun o => { o with adopted := false }
    (s .on).ListsOwned ∧ (s .on).load 0 = some { lamp with awaiting := true, pop := .on } ∧
    becomes (closed [1, 9] (s .stayOff)) = some .on ∧ becomes (closed [1] (s .stayOff)) = some .starting ∧
    (closed [1] (s .stayOff)).decideAll.hasEntry 9 = true ∧ becomes (closed [1] (lose [9] (s .stayOff))) = some .on ∧
    becomes (s .on) = some .starting ∧ becomes (lose [1, 9] (s .on)) = some .dark ∧
    becomes (lose [1] (s .last)) = some .unpowered ∧ ((lose [1] (s .last)).decideAll.outlet 1).lineLost = false ∧
    (s .on).insertable 1 (.bound 0) ∧ pending.decideAll = pending := by
  refine ⟨listsOwned_of (by decide +kernel), ?_⟩
  unfold State.insertable; decide +kernel

/-- R19: at the first judgement a LIVE outlet is adopted CLOSED where it is owned, and opened where it is FREE. -/
theorem test_witness_adopted :
    let s := (put 0 { lamp with awaiting := true, pop := .on } live).modLine .l1 fun l =>
      { l with state := .unknown, goodRun := some 0 }
    let fresh := [1, 2].foldl (fun s n => s.modOutlet n fun o => { o with adopted := false, volts := 2300 }) s
    let t := after (.goodRunComplete 1000000 .l1) fresh
    (fresh.outlet 1).settledOpen = true ∧ fresh.settings.nominal ≤ 2 * (fresh.outlet 1).volts ∧
    relay t 1 = (.closed, .idle) ∧ relay t 2 = (.opened, .opening) ∧ (t.outlet 2).adopted = true ∧
    ((after (.firstJudgementLimit 1000000 .l1) fresh).outlet 1).lineLost = true := by decide +kernel

/-! Line loss and return. -/

/-- The lamp in a state with its outlet 1 closed and outlet 9, on the same phase, open. -/
theorem test_witness_loss_places :
    let lose := fun (s : State) => s.phaseLoss .l1
    let third := live.modLine .l1 fun l => { l with missed := 2 }
    let wide := { lamp with locals := [⟨1, 15⟩, ⟨17, 15⟩] }
    let start := moving 1 .closing none (lampIn .starting [1])
    (lampIn .on [1]).ListsOwned ∧ third.Settled ∧ (third.line .l1).expected + 100 ≤ max third.now 1000600 ∧
    2 ≤ (third.line .l1).missed ∧ 1 ∈ live.outletsOn .l1 ∧ 17 ∉ live.outletsOn .l1 ∧
    stateOf (lose (lampIn .on [1])) 0 = some .dark ∧ stateOf (lose (closed [1, 17] (put 0 { wide with state := .on } live))) 0 = some .on ∧
    stateOf (lose (lampIn .on [])) 0 = some .on ∧ stateOf (lose start) 0 = some .unpowered ∧
    stateOf (lose (closed [17] (put 0 { wide with state := .starting } live))) 0 = some .starting ∧
    stateOf (lose (closed [1, 17] (put 0 { wide with state := .starting } live))) 0 = some .on ∧
    stateOf (lose (lampIn .quarantined [1])) 0 = some .quarantined ∧ start.contextOf 0 = none ∧ start.waiting 0 = false ∧
    (live.branchesOn .l1) = [1, 2] ∧ ((lose (lampIn .on [1])).outlet 1).lineLost = true :=
  ⟨listsOwned_of (by decide +kernel), by decide +kernel⟩

/-- A cycle abandoned by the loss of L1, in OPENING with a partner and in CLOSING; one in DWELL; and a waiting load. -/
theorem test_witness_loss_abandons :
    let lose := fun (s : State) => s.phaseLoss .l1
    let rackOpening := closed [2] (cycling rack .opening [] .asked (paired (put 0 rack live)))
    let lampClosing := { cycling lamp .closing [] .none lampOff with queue := [entry 1 1 0] }
    rackOpening.waitList = [] ∧ stateOf (lose rackOpening) 0 = some .on ∧ (lose rackOpening).link.tx = [.raise 9 40] ∧
    (lose rackOpening).context 0 = none ∧ stateOf (lose lampClosing) 0 = some .dark ∧ lampClosing.hasEntry 1 = true ∧
    (lose lampDwell).context 0 = lampDwell.context 0 ∧ stateOf (lose lampWaiting) 0 = some .cycling ∧
    (∀ j ∈ List.range 40, lampWaiting.contextOf j = none) ∧ lampWaiting.contextOf 0 = none := by decide +kernel

/-- R129, R178: a load in ON with an entry on another phase goes DARK at the loss of L1, and the entry stays (log 17). -/
theorem test_witness_dark_keeps_entry :
    let wide := { lamp with locals := [⟨1, 15⟩, ⟨17, 15⟩], state := .on }
    let s : State := { closed [1] (put 0 wide live) with
      queue := [{ outlet := 17, owner := .bound 0, prio := 1, cause := .restore, arrival := 0 }] }
    s.ListsOwned ∧ (s.hasEntry 17 = true ∧ stateOf (s.phaseLoss .l1) 0 = some .dark ∧ (s.phaseLoss .l1).entryOf 17 = s.entryOf 17) :=
  ⟨listsOwned_of (by decide +kernel), by decide +kernel⟩

/-- At the return of L1: line-lost outlets that are only cleared, that are queued, and a DARK load that starts. -/
theorem test_witness_return_places :
    let lost := fun (s : State) => ((s.modLine .l1 fun l => { l with state := .lost, goodRun := some 800000 }).modOutlet 1 fun o =>
      { o with lineLost := true }).modOutlet 3 fun o => { o with lineLost := true }
    let back := fun (s : State) => (lost s).phaseReturn .l1
    let wanted := put 0 { lamp with state := .on, wantedOn := true } live
    let holding := (lent 9 live).modOutlet 3 fun o => { o with dropHold := some { deadline := none } }
    (lost wanted).ListsOwned ∧ (lost live).Settled ∧ ((lost live).line .l1).goodRun = some 800000 ∧
    800000 + 200000 ≤ max (lost live).now 0 ∧ stateOf (back (lampIn .dark [])) 0 = some .starting ∧ (back wanted).hasEntry 1 = true ∧
    (back (wanted.modOutlet 1 fun o => { o with service := .failed })).hasEntry 1 = false ∧ (back lampOff).hasEntry 1 = false ∧
    ((back lampOff).outlet 1).lineLost = false ∧ (back (lent 9 live)).hasEntry 3 = true ∧ (back holding).hasEntry 3 = false :=
  ⟨listsOwned_of (by decide +kernel), by decide +kernel⟩

/-! The guard. -/

/-- The lamp's branch 1 at a current, its guard in a state. -/
def guarded (st : GuardState) (overCount cA : Nat) : State :=
  ({ lampOn liveWatch with meter := { live.meter with branch := Vector.replicate 6 cA } } : State).modGuard 1 fun g =>
    { g with state := st, overCount := overCount }

theorem test_witness_GuardTripsSettlesAndRestores :
    10 * (guarded .normal 3 1521).threshold 1 < (guarded .normal 3 1521).branchCurrent 1 ∧
    ¬ 10 * (guarded .normal 3 1520).threshold 1 < (guarded .normal 3 1520).branchCurrent 1 ∧
    ((guarded .normal 4 1521).guardBranch 1 |>.guard 1).state = .shedding ∧
    ((guarded .normal 3 1521).guardBranch 1 |>.guard 1).overCount = 4 ∧
    ((guarded .shedding 0 1420).guardBranch 1 |>.guard 1).state = .hold ∧
    ((guarded .shedding 0 1421).guardBranch 1 |>.guard 1).state = .shedding ∧
    ((guarded .hold 0 1280).guardBranch 1 |>.guard 1).restoreStart = some 1000000 ∧
    ((guarded .hold 0 1281).guardBranch 1 |>.guard 1).restoreStart = none ∧
    (((guarded .hold 0 1280).modGuard 1 fun g => { g with restoreStart := some 0 }).advance 6000000 |>.guardBranch 1
      |>.guard 1).state = .restoring ∧
    (let s := (guarded .normal 4 1521).modLine .l1 fun l => { l with state := .unknown }
     s.phaseUp (phaseOfBranch s.branchCount 1) = false ∧ ((s.guardBranch 1).guard 1).overCount = 5 ∧
     (((s.guardBranch 1).guardBranch 1).guard 1).overCount = 5 ∧ ((s.guardBranch 1).guard 1).state = .normal) := by
  decide +kernel

/-- R173: the restore of branch 1 under AUTO and MANUAL: the lamp's LOAD entry, the rack's CORD entry, a LENT entry. -/
theorem test_witness_restores :
    let lists : List ShedEntry :=
      [{ victim := .slot 0, kind := .load, outlets := [1, 9] }, { victim := .slot 3, kind := .cord, outlets := [2] },
       { victim := .home 9, kind := .lent, outlets := [3] }]
    let base := lent 9 (paired (put 3 (running rack liveWatch) (put 0 { lamp with state := .shed } live)))
    let marked := [1, 9, 2, 3].foldl (fun s n => s.modOutlet n fun o => { o with shed := true }) base
    let s := fun (m : RestoreMode) (st : GuardState) =>
      ({ marked with settings := { marked.settings with restoreMode := Vector.replicate 6 m } } : State).modGuard 1 fun g =>
        { g with state := st, list := lists, restoreStart := some (0 : Nat) }
    let u := fun (m : RestoreMode) (st : GuardState) => ((s m st).advance 6000000).guardBranch 1
    (s .auto .normal).ListsOwned ∧ (s .auto .normal).insertable 1 (.bound 0) ∧
    ((s .manual .restoring).advance 5999999 |>.guardBranch 1 |>.guard 1).state = .restoring ∧
    ((s .manual .hold).advance 5999999 |>.guardBranch 1 |>.guard 1).state = .hold ∧
    ((u .auto .hold).guard 1).state = .restoring ∧ ((u .auto .normal).guard 1).list = [] ∧
    stateOf (u .auto .normal) 0 = some .starting ∧ [1, 9, 2, 3].all (u .auto .normal).hasEntry = true ∧
    ((u .manual .normal).guard 1).list = [{ victim := .slot 0, kind := .load, outlets := [1, 9] }] ∧
    stateOf (u .manual .normal) 0 = some .shed ∧ (u .manual .restoring).hasEntry 2 = true ∧
    (u .manual .restoring).hasEntry 3 = true ∧ ((u .manual .restoring).outlet 3).shed = false := by
  refine ⟨listsOwned_of (by decide +kernel), ?_⟩
  unfold State.insertable; decide +kernel

theorem test_witness_VictimChosenAndShed :
    firstCandidate ((lampOn liveWatch).candidates 1) = some (.load 0 1 false 900001) ∧
    firstCandidate ((closed [3] (lent 9 (lampOn liveWatch))).candidates 1) = some (.load 0 1 false 900001) ∧
    firstCandidate ((closed [3] (lent 9 live)).candidates 1) = some (.lent 9 2 3) ∧
    firstCandidate (rackOn.candidates 1) = some (.load 3 1 false 900001) ∧ live.candidates 1 = [] := by decide +kernel

/-- R167's ranks two by two, the later power time of two STARTING loads among them (log 16). -/
theorem test_witness_ranks :
    firstCandidate [.load 0 1 false 9, .load 1 0 false 1] = some (.load 1 0 false 1) ∧
    firstCandidate [.load 0 1 true 9, .lent 9 1 3] = some (.lent 9 1 3) ∧
    firstCandidate [.lent 8 1 3, .lent 9 1 4] = some (.lent 9 1 4) ∧
    firstCandidate [.load 0 1 false 9, .load 1 1 true 1] = some (.load 1 1 true 1) ∧
    firstCandidate [.load 0 1 true 9, .load 1 1 true 1] = some (.load 0 1 true 9) ∧
    firstCandidate [.load 0 1 false 9, .load 1 1 false 9] = some (.load 1 1 false 9) := by decide +kernel

/-- R168, R169, R171: an entry begun, an entry that takes more outlets, and a STARTING dual-corded victim. -/
theorem test_witness_shed_recorded :
    let s := (lampOn liveWatch).shedVictim 1 (.load 0 1 false 900001)
    let held := (lampOn liveWatch).modGuard 1 fun g => { g with list := [{ victim := .slot 0, kind := .load, outlets := [4] }] }
    let cord := closed [2] (paired (put 3 { rack with state := .starting } live))
    (lampOn liveWatch).freshOf [1, 9] = [1, 9] ∧ live.freshOf [1, 9] = [] ∧
    (s.guard 1).list = [{ victim := .slot 0, kind := .load, outlets := [1, 9] }] ∧
    (((held.shedVictim 1 (.load 0 1 false 900001)).guard 1).list.map (·.outlets)) = [[4, 1, 9]] ∧
    stateOf (cord.shedVictim 1 (.load 3 1 true 0)) 3 = some .on ∧
    stateOf ((paired (put 3 { ordered rack .raise .start with state := .starting } cord)).shedVictim 1 (.load 3 1 true 0)) 3 =
      some .starting := by decide +kernel

theorem test_witness_ExternalShed :
    (lampOn liveWatch).ListsOwned ∧ rackOn.ListsOwned ∧ (lampOn liveWatch).ext.active = false ∧
    lamp.prio ≤ (lampOn liveWatch).settings.extClass ∧
    (let s : State := { put 0 { lamp with state := .shed } live with
      ext := { active := true, cls := some 1, list := [{ victim := .slot 0, kind := .load, outlets := [1, 9] }] } }
     s.Settled ∧ s.settings.extRestore = .auto ∧ (s.load 0).isSome) :=
  ⟨listsOwned_of (by decide +kernel), listsOwned_of (by decide +kernel), by decide +kernel⟩

/-- R170, R175, R176: a lent owner and a load taken by an external shed, one above the class spared, the entries in the
order of the victims; and a CORD and a LENT entry at a deassertion. -/
theorem test_witness_external_owners :
    let s : State := { closed [3] (lent 9 (lampOn liveWatch)) with ext := { active := true, cls := some 2, list := [] } }
    let low : State := { s with ext := { s.ext with cls := some 1 } }
    let cords : State := { lent 9 (paired (put 3 (running rack liveWatch) live)) with
      ext := { active := true, cls := some 2
               list := [{ victim := .slot 3, kind := .cord, outlets := [2] }, { victim := .home 9, kind := .lent, outlets := [3] }] } }
    let back := ([2, 3].foldl (fun s n => s.modOutlet n fun o => { o with shed := true }) cords).extDeassert
    s.ListsOwned ∧ s.freshOf [1, 9] = [1, 9] ∧ (s.outlet 3).owner = .lent 9 7 2 ∧
    s.extShed.ext.list = [{ victim := .slot 0, kind := .load, outlets := [1, 9] },
                          { victim := .home 9, kind := .lent, outlets := [3] }] ∧
    (s.extShed.outlet 3).shed = true ∧ relay s.extShed 3 = (.opened, .opening) ∧ low.extShed.outlet 3 = low.outlet 3 ∧
    stateOf low.extShed 0 = some .shed ∧ cords.Settled ∧ back.ext.list = [] ∧ back.hasEntry 2 = true ∧
    back.hasEntry 3 = true ∧ (back.outlet 3).shed = false :=
  ⟨listsOwned_of (by decide +kernel), by decide +kernel⟩

/-! The partner link. -/

theorem test_witness_LinkPresenceMoves :
    rackOff.Settled ∧ rackOff.link.nextHello ≤ max rackOff.now 0 ∧ rackOff.link.side = .a ∧ live.link.side = .solo ∧
    rackOff.side = .a ∧ rackOff.link.silence = some 1099000 ∧ rackOff.link.presence = .up ∧
    (LinkFrame.hello .b 3 10).fieldsOk = true ∧ (LinkFrame.raiseFailed 1 255 48).fieldsOk = true ∧
    (LinkFrame.bind 1 1 [⟨48, 320⟩] 3).fieldsOk = true := by decide +kernel

/-- R64: STRANDED loads at the link's entry into UP: pinned, with a FAILED outlet, and with and without a free context. -/
theorem test_witness_unstranded :
    let s := fun (l : Load) (base : State) => { paired (put 3 { l with state := .stranded, watch := Watch.inHung } base) with
      link := { (paired live).link with presence := .joining } }
    let up := fun (s : State) => after (.hello 1000000 .b 6 16) s
    let l := running rack Watch.inHung
    let failed := (s l live).modOutlet 2 fun o => { o with service := .failed }
    (s l live).Settled ∧ (s l live).opposite .b = true ∧ (up (s l live)).link.presence = .up ∧
    stateOf (up (s l live)) 3 = some .cycling ∧ (up (s l live)).link.tx = [.drop 9 40 80] ∧
    stateOf (up (s { l with pinned := true } live)) 3 = some .on ∧
    subOf (up (s { l with pinned := true } live)) 3 = some .hung ∧ stateOf (up failed) 3 = some .quarantined ∧
    (up (s l noContext)).waitList = [{ slot := 3, cause := .hang }] := by decide +kernel

/-- R14, log 20: a changed side at the next HELLO made, with and without an announcement, and to SOLO. -/
theorem test_witness_side_changed :
    let turned := fun (side : Side) (p : Presence) (a : Option Announce) =>
      let s := paired live
      after (.helloSend 1000000)
        { s with settings := { s.settings with sideOvr := some side }, link := { s.link with presence := p, announce := a } }
    let saw := fun (side : Side) (m : Nat) => some ({ side := side, count := 6, rating := 16, moment := m } : Announce)
    (paired live).link.side ≠ ({ paired live with settings := { live.settings with sideOvr := some .b } } : State).side ∧
    (turned .solo .up (saw .b 0)).link.presence = .down ∧ (turned .b .up none).link.presence = .up ∧
    (turned .b .up (saw .b 999000)).link.presence = .mismatch ∧ (turned .b .joining (saw .b 999000)).link.presence = .mismatch ∧
    (turned .b .mismatch (saw .a 900000)).link.presence = .joining ∧ (turned .b .mismatch (saw .a 899999)).link.presence = .mismatch ∧
    (turned .b .up (saw .a 0)).link.presence = .up := by decide +kernel

theorem test_witness_LendingBegunAndEnded :
    (paired live).lending 9 = [] ∧ (paired (lent 9 live)).lending 9 = [3, 12] ∧ (paired (lent 9 live)).Settled ∧
    (paired (lent 9 live)).Free ∧ (paired live).claimFails [⟨3, 15⟩] false = none ∧
    (paired lampOff).claimFails [⟨1, 15⟩] false = some .taken ∧ (9 : Tag) ≠ 0 ∧
    ((closed [3] (lent 9 live)).outlet 3).settledOpen = false ∧ ((lent 9 live).outlet 12).settledOpen = true ∧
    ¬ [3, 3].Nodup ∧ (lampOff.outlet 1).isBound = true := by decide +kernel

/-- R189: an UNBOUND still pending is superseded by a BIND that is refused and by a RAISE that finds no outlet held. -/
theorem test_witness_answers_superseded :
    let s := (awaited .unbound [3, 12] []).modOutlet 3 fun o => { o with releasing := true }
    let t := s.modOutlet 12 fun o => { o with releasing := true }
    t.lending 9 = [3, 12] ∧ t.lendingHeld 9 = [] ∧ (t.answerOf 9).isSome ∧
    (after (.bind 1000000 9 7 [⟨4, 1⟩] 2) t).link.answers = [] ∧
    (after (.bind 1000000 9 7 [⟨4, 1⟩] 2) t).link.tx = [.refused 9 7 .outletTaken] ∧
    (after (.raise 1000000 9 7) t).link.answers = [] ∧ (after (.raise 1000000 9 7) t).link.tx = [.raiseFailed 9 7 0] ∧
    (after (.drop 1000000 9 7 0) t).link.answers = t.link.answers := by decide +kernel

/-- R193: a lent outlet on a lost phase takes the line-lost marker. -/
theorem test_raise_lost :
    let s := (paired (lent 9 live)).modLine .l1 fun l => { l with state := .lost }
    let u := after (.raise 1000000 9 7) s
    s.raiseFinding 3 = .lost ∧ s.inUse 3 = true ∧ (s.outlet 3).commanded = .opened ∧ (u.outlet 3).lineLost = true ∧
    u.link.tx = [.raiseFailed 9 7 3] := by decide +kernel

theorem test_witness_LentOutletsDroppedAndRaised :
    (paired (lent 9 live)).lendingHeld 9 = [3, 12] ∧ (∀ n ∈ [3, 12], ((lent 9 live).outlet n).adopted = true) ∧
    (lent 9 live).insertable 3 (.lent 9 7 2) ∧ (lent 9 live).raiseFinding 3 = .inserted ∧
    (closed [3] (lent 9 live)).raiseFinding 3 = .closed ∧
    ((lent 9 live).modOutlet 3 fun o => { o with service := .failed }).raiseFinding 3 = .failing ∧
    ((lent 9 live).modLine .l1 fun l => { l with state := .lost }).raiseFinding 3 = .lost ∧
    (let s := (lent 9 live).modOutlet 3 fun o => { o with dropHold := some { deadline := some 1000000 } }
     s.Settled ∧ s.holdDue 3 = true ∧ s.holdDue 12 = false) := by
  unfold State.insertable; decide +kernel

/-- The rack with an order outstanding. -/
def orderedRack (k : OrderKind) (sender : Sender) (st : LoadState) : State :=
  paired (put 3 { ordered rack k sender with state := st } live)

theorem test_witness_AnswersMatchOrders :
    AnswerFrame 0 9 39 .raised (.raised 0 9 39) ∧ (orderedRack .raise .start .starting).Settled ∧
    (orderedRack .raise .start .starting).slotOfTag 9 = some 3 ∧
    (orderedRack .raise .start .starting).load 3 = some { ordered rack .raise .start with state := .starting } ∧
    OrderEnd.raised.ends .raise = true ∧ OrderEnd.raised.ends .drop = false ∧ live.link.presence ≠ .up :=
  ⟨.raised, by decide +kernel⟩

theorem test_witness_OrdersEndBySender :
    (orderedRack .bind .admission .admitting).load 3 = some { ordered rack .bind .admission with state := .admitting } ∧
    (orderedRack .unbind .retire .retiring).load 3 = some { ordered rack .unbind .retire with state := .retiring } ∧
    (orderedRack .drop .stop .stopping).load 3 = some { ordered rack .drop .stop with state := .stopping } ∧
    (∀ n ∈ rack.outlets, ((orderedRack .drop .stop .stopping).outlet n).settledOpen = true) ∧
    (let s := cycling (ordered rack .drop .cycle) .opening [] .asked (paired (put 0 rack live))
     s.contextOf 0 = some 0 ∧ s.insertable 2 (.bound 0) ∧ (s.context 0).map (·.pending) = some none ∧
     s.phaseLost (s.phaseOf 2) = false) ∧
    (let s := cycling (ordered rack .raise .cycle) .closing [2] .asked (paired (put 0 rack live))
     s.contextOf 0 = some 0 ∧ (s.context 0).map (·.progress) = some [2] ∧ s.waitList = []) := by
  unfold State.insertable; decide +kernel

/-- R32, R10: an admission that fails frees its outlet, its tag and its slot. -/
theorem test_witness_admission_fails :
    let s := orderedRack .bind .admission .admitting
    let t := after (.refused 1000000 9 39 .overBudget) s
    s.TagsDistinct ∧ (s.outlet 2).owner = .bound 3 ∧ (s.outlet 2).settledOpen = true ∧ (t.outlet 2).owner = .free ∧
    (t.outlet 2).reservation = 0 ∧ t.resolve 9 = none ∧ t.slot 3 = { counter := 1, load := none } :=
  ⟨tagsDistinct_of (by decide +kernel), by decide +kernel⟩

/-- An amendment's sequence: the end of its UNBIND and of its BIND. -/
theorem test_witness_amendment_ends :
    let q : AmendSeq := { carried := [⟨4, 5⟩], before := [⟨3, 10⟩] }
    let l : Load := { ordered rack .unbind .amendment with state := .retiring, amendSeq := some q }
    (paired (put 3 l live)).load 3 = some l ∧
    (after (.unbound 1000000 9 39) (paired (put 3 l live))).link.tx = [.bind 9 40 [⟨4, 5⟩] 1] ∧
    ((after (.unbound 1000000 9 39) (paired (put 3 { l with amendSeq := some { q with carried := [] } } live))).load 3).map
      (·.peers) = some [] ∧
    answer (after (.orderDeadlineExpiry 1000000 3) { paired (put 3 l live) with
      port := { live.port with state := .executing .amend 3 } }) = some (.peerNoAnswer, .nothing) := by decide +kernel

/-- R97, R104: the ends of a cycle's orders that fail it, with outlets unsettled, settled and all FAILED. -/
theorem test_witness_cycle_orders_end :
    let cyc := fun k p ns => cycling (ordered rack k .cycle) p ns .asked (paired (put 0 rack live))
    let ends := fun (s : State) (e : OrderEnd) => match s.orderOf 0 with | some o => s.endOrder 0 o e | none => s
    let told := fun (s : State) (n : Notice) => (s.load 0).map fun l => hasNotice l.notices n
    let failed := (cyc .drop .opening []).modOutlet 2 fun o => { o with service := .failed }
    ((ends (cyc .drop .opening []) .expired).context 0).map (·.pending) = some (some (.failed .peerNoAnswer)) ∧
    told (ends (cyc .drop .opening []) .expired) .peerNoAnswer = some true ∧
    ((ends (cyc .drop .opening []) .linkLost).context 0).map (·.pending) = some (some (.failed .peerLost)) ∧
    stateOf (ends failed .dropRefused) 0 = some .on ∧
    ((ends (cyc .raise .closing []) .expired).context 0).map (fun c => (c.peer, c.pending)) =
      some (.none, some (.failed .peerNoAnswer)) ∧
    stateOf (ends (cyc .raise .closing [2]) .linkLost) 0 = some .on ∧
    told (ends (cyc .raise .closing [2]) (.raiseFailed 3)) .outletFault = some true ∧
    (ends (cyc .raise .closing [2]) .expired).context 0 = none ∧ (cyc .raise .closing [2]).waitList = [] := by decide +kernel

end Sys2Proof.Tests
end

section
/-! PROOFS. Reads of the Load Table over writes of a record, the tag space (R26), and how many aliases it holds. -/

namespace Sys2Proof.Machine.Laws

/-! ### Records -/

@[simp] theorem advance_load (s : State) (t i : Nat) : (s.advance t).load i = s.load i := rfl
@[simp] theorem quiet_load (s : State) (i : Nat) : s.quiet.load i = s.load i := rfl
@[simp] theorem advance_resolve (s : State) (t : Nat) (g : Tag) : (s.advance t).resolve g = s.resolve g := rfl
@[simp] theorem quiet_resolve (s : State) (g : Tag) : s.quiet.resolve g = s.resolve g := rfl

/-- A record stands in one of the 40 slots (R22). -/
theorem slot_lt_of_load {s : State} {i : Nat} {l : Load} (h : s.load i = some l) : i < 40 := by
  refine Decidable.byContradiction fun hi => ?_
  simp [State.load, State.slot, vget, hi, Slot.empty] at h

/-- Reading a slot's record after a slot of the table was written. -/
theorem load_setSlot (s : State) (i j : Nat) (v : Slot) :
    (s.setSlot i v).load j = if i = j ∧ i < 40 then v.load else s.load j := by
  by_cases hi : i < 40 <;> by_cases hj : j < 40 <;>
    simp [State.load, State.slot, State.setSlot, vget, vset, hi, hj, Vector.getElem_set, apply_ite Slot.load]
  omega

/-- Reading a record after a record was put into an occupied slot. -/
theorem load_setLoad {s : State} {i : Nat} {l : Load} (hl : s.load i = some l) (m : Load) (j : Nat) :
    (s.setLoad i m).load j = if i = j then some m else s.load j := by
  simp [load_setSlot, slot_lt_of_load hl]

/-- Reading a record after the record of a slot, if any, was changed. -/
theorem load_modLoad (s : State) (i j : Nat) (f : Load → Load) :
    (s.modLoad i f).load j = if i = j then (s.load j).map f else s.load j := by
  unfold State.modLoad
  cases hl : s.load i with
  | some l =>
    dsimp only
    rw [load_setLoad hl]
    split
    · next hij => rw [← hij, hl]; rfl
    · rfl
  | none =>
    dsimp only
    split
    · next hij => rw [← hij, hl]; rfl
    · rfl

/-- A change of a record changes the slots alone. -/
theorem modLoad_slots (s : State) (i : Nat) (f : Load → Load) : ∃ v, s.modLoad i f = { s with slots := v } := by
  unfold State.modLoad
  cases s.load i with
  | some l => exact ⟨_, rfl⟩
  | none => exact ⟨_, rfl⟩

/-! ### The tag space (R26) -/

/-- A record is named by its tags. -/
theorem named_iff_mem_tags (l : Load) (g : Tag) : l.named g = true ↔ g ∈ l.tags := by
  simp [Load.named, Load.tags, @eq_comm _ g]

/-- A tag is free in the tag space when no record has it. -/
theorem resolve_eq_none {s : State} {g : Tag} :
    s.resolve g = none ↔ ∀ i l, s.load i = some l → g ∉ l.tags := by
  unfold State.resolve
  rw [List.find?_eq_none]
  constructor
  · intro h i l hl hg
    refine h i (List.mem_range.mpr (slot_lt_of_load hl)) ?_
    simp only [hl]
    exact (named_iff_mem_tags l g).mpr hg
  · intro h i _
    cases hl : s.load i with
    | none => simp
    | some l => simpa using fun hc => h i l hl ((named_iff_mem_tags l g).mp hc)

/-- A tag that one record alone has resolves to that record's slot. -/
theorem resolve_of_only {s : State} {i : Nat} {l : Load} {g : Tag} (hl : s.load i = some l) (hg : g ∈ l.tags)
    (only : ∀ j m, s.load j = some m → g ∈ m.tags → j = i) : s.resolve g = some i := by
  cases hr : s.resolve g with
  | none => exact absurd hg (resolve_eq_none.mp hr i l hl)
  | some j =>
    have hj := List.find?_some hr
    cases hm : s.load j with
    | none => simp [hm] at hj
    | some m =>
      simp only [hm] at hj
      rw [only j m hm ((named_iff_mem_tags m g).mp hj)]

/-- One beat for a tag that resolves counts as known (R79). -/
theorem beats_known {s : State} {g : Tag} {i : Nat} (h0 : g ≠ 0) (h : s.resolve g = some i) :
    (s.beats [g]).2 = (1, 0) := by
  unfold State.beats
  rw [if_neg h0, h]
  rfl

/-- One beat for a tag that does not resolve counts as unknown (R79). -/
theorem beats_unknown {s : State} {g : Tag} (h : s.resolve g = none) : (s.beats [g]).2 = (0, 1) := by
  simp [State.beats, h]

/-! ### The count of aliases (R26) -/

/-- How many aliases the record of a slot has, 0 for an empty slot. -/
def aliasesIn (s : State) (i : Nat) : Nat := ((s.load i).map fun l => l.aliases.length).getD 0

theorem aliasCount_eq_sum (s : State) : s.aliasCount = (slotNumbers.map (aliasesIn s)).sum := by
  have each : s.aliasCount = slotNumbers.foldl (fun n i => n + aliasesIn s i) 0 := by
    unfold State.aliasCount aliasesIn
    congr 1
    funext n i
    cases s.load i <;> rfl
  rw [each, List.sum_eq_foldl, List.foldl_map]

/-- A changed record changes the count of aliases by the difference of its aliases. -/
theorem aliasCount_setLoad {s : State} {i : Nat} {l : Load} (hl : s.load i = some l) (m : Load) :
    (s.setLoad i m).aliasCount + l.aliases.length = s.aliasCount + m.aliases.length := by
  have hi : i ∈ slotNumbers := List.mem_range.mpr (slot_lt_of_load hl)
  have others : (slotNumbers.erase i).map (aliasesIn (s.setLoad i m)) = (slotNumbers.erase i).map (aliasesIn s) :=
    List.map_congr_left fun j hj => by
      have hne : i ≠ j := fun h => ((List.nodup_range.mem_erase_iff).mp hj).1 h.symm
      rw [aliasesIn, load_setLoad hl, if_neg hne, aliasesIn]
  have before : aliasesIn s i = l.aliases.length := by rw [aliasesIn, hl]; rfl
  have after : aliasesIn (s.setLoad i m) i = m.aliases.length := by rw [aliasesIn, load_setLoad hl, if_pos rfl]; rfl
  have apart : ∀ x : State, x.aliasCount = aliasesIn x i + ((slotNumbers.erase i).map (aliasesIn x)).sum := fun x => by
    rw [aliasCount_eq_sum, ((List.perm_cons_erase hi).map _).sum_nat, List.map_cons, List.sum_cons]
  rw [apart, apart s, others, before, after]
  omega

/-- Filtering a list without repetition by one of its members takes one entry from it. -/
theorem length_filter_ne {g : Tag} {gs : List Tag} (hn : gs.Nodup) (hg : g ∈ gs) :
    (gs.filter fun b => b != g).length + 1 = gs.length := by
  rw [← hn.erase_eq_filter, List.length_erase_of_mem hg, Nat.sub_add_cancel (List.length_pos_of_mem hg)]

end Sys2Proof.Machine.Laws
end

section
/-! PROOFS. ALIAS add and remove (O26): the ranks of R46 and R47 as one equation each, and what the tag space holds
after a tag was appended to a load's aliases or filtered out of them. -/

namespace Sys2Proof.Machine.Laws

/-- The ranks of an ALIAS add whose load tag resolves, taken at `t` (R46). -/
theorem addAlias_taken {s : State} {g a : Tag} {i : Nat} {l : Load} (t : Nat) (h : s.names g i l) :
    (s.advance t).quiet.addAlias { tag := g, other := a } =
      if a = 0 then ((s.advance t).quiet, .plain .badRequest)
      else if l.state = .retiring then ((s.advance t).quiet, .plain .wrongState)
      else if (s.resolve a).isSome then ((s.advance t).quiet, .plain .tagInUse)
      else if 64 ≤ s.aliasCount ∨ 3 ≤ l.aliases.length then ((s.advance t).quiet, .plain .tableFull)
      else (((s.advance t).setLoad i { l with aliases := l.aliases ++ [a] }).quiet, .plain .done) :=
  named_known (s := (s.advance t).quiet) h

/-- The ranks of an ALIAS remove whose load tag resolves, taken at `t` (R47). -/
theorem removeAlias_taken {s : State} {g a : Tag} {i : Nat} {l : Load} (t : Nat) (h : s.names g i l) :
    (s.advance t).quiet.removeAlias { tag := g, other := a } =
      if l.state = .retiring then ((s.advance t).quiet, .plain .wrongState)
      else if !l.aliases.contains a then ((s.advance t).quiet, .plain .unknownTag)
      else (((s.advance t).setLoad i { l with aliases := l.aliases.filter fun b => b != a }).quiet, .plain .done) :=
  named_known (s := (s.advance t).quiet) h

/-- A tag that was free resolves to the load to whose aliases it was appended. -/
theorem resolve_appended {s : State} {i : Nat} {l : Load} {a : Tag} (hl : s.load i = some l)
    (free : s.resolve a = none) : (s.setLoad i { l with aliases := l.aliases ++ [a] }).resolve a = some i := by
  refine resolve_of_only (l := { l with aliases := l.aliases ++ [a] }) ?_ ?_ ?_
  · rw [load_setLoad hl, if_pos rfl]
  · simp [Load.tags]
  · intro j m hm ha
    rw [load_setLoad hl] at hm
    split at hm
    · next hij => exact hij.symm
    · exact absurd ha (resolve_eq_none.mp free j m hm)

/-- A tag filtered out of its load's aliases is free, where all tags are distinct. -/
theorem resolve_filtered {s : State} {i : Nat} {l : Load} {a : Tag} (hd : s.TagsDistinct) (hl : s.load i = some l)
    (ha : a ∈ l.aliases) :
    (s.setLoad i { l with aliases := l.aliases.filter fun b => b != a }).resolve a = none := by
  obtain ⟨own, apart⟩ := hd
  refine resolve_eq_none.mpr fun j m hm => ?_
  rw [load_setLoad hl] at hm
  split at hm
  · cases hm
    have htag : l.tag ≠ a := fun h => (List.nodup_cons.mp (own i l hl).1).1 (h ▸ ha)
    simp [Load.tags, htag.symm]
  · next hij => exact apart i j l m hl hm hij a (List.mem_cons_of_mem _ ha)

/-- Filtering a tag out of a load's aliases takes one from the count of aliases, where the load's tags are distinct. -/
theorem aliasCount_filtered {s : State} {i : Nat} {l : Load} {a : Tag} (hd : s.TagsDistinct)
    (hl : s.load i = some l) (ha : a ∈ l.aliases) :
    (s.setLoad i { l with aliases := l.aliases.filter fun b => b != a }).aliasCount + 1 = s.aliasCount := by
  have count := aliasCount_setLoad hl { l with aliases := l.aliases.filter fun b => b != a }
  have one := length_filter_ne (List.nodup_cons.mp (hd.1 i l hl).1).2 ha
  dsimp only at count
  omega

/-- Settles O26: the ranks of R46 and R47 branch by branch. -/
theorem aliasesAddedAndRemoved : Obligations.AliasesAddedAndRemoved := by
  intro t i g a l s hs hf hn
  have hl : (s.advance t).load i = some l := hn.2.2
  have add := addAlias_taken (a := a) t hn
  have remove := removeAlias_taken (a := a) t hn
  dsimp only
  constructor
  · split
    next h0 => exact request_answered hf (by rw [add, if_pos h0]; rfl) hs
    next h0 =>
    split
    next h1 => exact request_answered hf (by rw [add, if_neg h0, if_pos h1]; rfl) hs
    next h1 =>
    split
    next h2 => exact request_answered hf (by rw [add, if_neg h0, if_neg h1, if_pos h2]; rfl) hs
    next h2 =>
    split
    next h3 => exact request_answered hf (by rw [add, if_neg h0, if_neg h1, if_neg h2, if_pos h3]; rfl) hs
    next h3 =>
    have resolved := resolve_appended hl (Option.not_isSome_iff_eq_none.mp h2)
    refine ⟨?_, resolved, beats_known h0 resolved⟩
    exact request_answered hf (by rw [add, if_neg h0, if_neg h1, if_neg h2, if_neg h3]; rfl) hs
  · split
    next h1 => exact request_answered hf (by rw [remove, if_pos h1]; rfl) hs
    next h1 =>
    split
    next ha => exact request_answered hf (by rw [remove, if_neg h1, if_pos (by simpa using ha)]; rfl) hs
    next h2 =>
    intro hd
    have ha : a ∈ l.aliases := Decidable.not_not.mp h2
    have freed := resolve_filtered (s := s.advance t) hd hl ha
    refine ⟨?_, freed, beats_unknown freed, aliasCount_filtered (s := s.advance t) hd hl ha⟩
    exact request_answered hf (by rw [remove, if_neg h1, if_neg (by simpa using ha)]; rfl) hs

end Sys2Proof.Machine.Laws
end

section
/-! PROOFS. Requests that name a load (O17): all eleven are one judgement behind R28's tag and revision checks, and the
five power requests are judged behind R50's and answered plainly in their step. -/

namespace Sys2Proof.Machine.Laws

/-! ### R28 -/

/-- Two requests of one kind whose owners reply alike are the same step. -/
theorem request_congr {α β : Type} {k : ReqKind} {a : α} {b : β} {own : State → α → State × Reply}
    {own' : State → β → State × Reply} (same : ∀ u, own u a = own' u b) (s : State) :
    s.request k (.fits a) own = s.request k (.fits b) own' := by
  unfold State.request
  simp only [same]

/-- Every request that names a load is a judgement of the resolved record behind R28's checks, in which the tag
operand plays no part any more. -/
theorem namesLoad_judged {t : Nat} {k : ReqKind} {e : Option Nat} {f : Tag → Instr} (h : NamesLoad t k e f) :
    ∃ judge : Tag → State → Nat → Load → State × Reply,
      (∀ (g : Tag) (s : State), exec (f g) s =
        State.done ((s.advance t).request k (.fits g) fun u g => u.namedExpecting g e (judge g u))) ∧
      ∀ g g' : Tag, judge g = judge g' := by
  cases h <;> exact ⟨_, fun _ _ => congrArg State.done (request_congr (fun _ => rfl) _), fun _ _ => rfl⟩

theorem namedExpecting_unknown {s : State} {g : Tag} {e : Option Nat} {f : Nat → Load → State × Reply} (h0 : g ≠ 0)
    (hr : s.resolve g = none) : s.namedExpecting g e f = (s, .plain .unknownTag) := named_unknown h0 hr

/-- An expected revision other than the record's is refused with the present one (R28). -/
theorem namedExpecting_stale {s : State} {g : Tag} {i r : Nat} {l : Load} {f : Nat → Load → State × Reply}
    (h : s.names g i l) (hr : r ≠ l.revision) :
    s.namedExpecting g (some r) f = (s, .answer .stale (.revision l.revision)) := by
  unfold State.namedExpecting
  rw [named_known h]
  exact if_neg hr

/-- Two tags that name one load are judged alike (R28). -/
theorem namedExpecting_congr {s : State} {g g' : Tag} {i : Nat} {l : Load} {e : Option Nat}
    {f : Nat → Load → State × Reply} (h : s.names g i l) (h' : s.names g' i l) :
    s.namedExpecting g e f = s.namedExpecting g' e f := by
  unfold State.namedExpecting
  rw [named_known h, named_known h']

/-- Each of a record's tags names it, where all tags are distinct and nonzero (R26). -/
theorem names_of_mem_tags {s : State} {i : Nat} {l : Load} {g : Tag} (hd : s.TagsDistinct) (hl : s.load i = some l)
    (hg : g ∈ l.tags) : s.names g i l :=
  ⟨(hd.1 i l hl).2 g hg, resolve_tags hd hl hg, hl⟩

/-! ### R50 -/

/-- A power request is answered by a status alone where its own checks are. -/
theorem power_plain {s : State} {g : Tag} {f : Nat → Load → State × Reply}
    (h : ∀ i l, ∃ st, (f i l).2 = .plain st) : ∃ st, (s.power g f).2 = .plain st := by
  unfold State.power State.named
  split
  · exact ⟨_, rfl⟩
  · split
    · exact ⟨_, rfl⟩
    · split
      · dsimp only
        split
        · exact ⟨_, rfl⟩
        · exact h _ _
      · exact ⟨_, rfl⟩

/-- A record awaiting adoption is refused BUSY (R50). -/
theorem power_awaiting {s : State} {g : Tag} {i : Nat} {l : Load} {f : Nat → Load → State × Reply}
    (h : s.names g i l) (ha : l.awaiting = true) : s.power g f = (s, .plain .busy) := by
  unfold State.power
  rw [named_known h]
  exact if_pos ha

theorem powerOn_plain (s : State) (g : Tag) : ∃ st, (s.powerOn g).2 = .plain st :=
  power_plain fun i l => by
    repeat' split
    all_goals exact ⟨_, rfl⟩

theorem powerOff_plain (s : State) (g : Tag) : ∃ st, (s.powerOff g).2 = .plain st :=
  power_plain fun i l => by
    repeat' split
    all_goals exact ⟨_, rfl⟩

theorem cycle_plain (s : State) (g : Tag) : ∃ st, (s.cycle g).2 = .plain st :=
  power_plain fun i l => by
    repeat' split
    all_goals exact ⟨_, rfl⟩

theorem cancel_plain (s : State) (g : Tag) : ∃ st, (s.cancel g).2 = .plain st :=
  power_plain fun i l => by
    repeat' split
    all_goals exact ⟨_, rfl⟩

theorem releaseShed_plain (s : State) (i : Nat) : ∃ st, (s.releaseShed i).2 = .plain st := by
  unfold State.releaseShed
  split <;> exact ⟨_, rfl⟩

theorem release_plain (s : State) (g : Tag) : ∃ st, (s.release g).2 = .plain st :=
  power_plain fun i l => by
    cases l.state with
    | shed => exact releaseShed_plain s i
    | _ => exact ⟨_, rfl⟩

/-- Every power request is a judgement of its owner that refuses an awaiting record BUSY and answers a status alone. -/
theorem powerRequest_judged {t : Nat} {k : ReqKind} {f : Tag → Instr} (h : PowerRequest t k f) :
    ∃ own : State → Tag → State × Reply,
      (∀ (g : Tag) (s : State), exec (f g) s = State.done ((s.advance t).request k (.fits g) own)) ∧
      (∀ (s : State) (g : Tag) (i : Nat) (l : Load), s.names g i l → l.awaiting = true →
        own s g = (s, .plain .busy)) ∧
      ∀ (s : State) (g : Tag), ∃ st, (own s g).2 = .plain st := by
  cases h with
  | powerOn => exact ⟨State.powerOn, fun _ _ => rfl, fun _ _ _ _ => power_awaiting, powerOn_plain⟩
  | powerOff => exact ⟨State.powerOff, fun _ _ => rfl, fun _ _ _ _ => power_awaiting, powerOff_plain⟩
  | cycle => exact ⟨State.cycle, fun _ _ => rfl, fun _ _ _ _ => power_awaiting, cycle_plain⟩
  | cancel => exact ⟨State.cancel, fun _ _ => rfl, fun _ _ _ _ => power_awaiting, cancel_plain⟩
  | release => exact ⟨State.release, fun _ _ => rfl, fun _ _ _ _ => power_awaiting, release_plain⟩

/-- A request that its owner answers from a free port shows that answer at the end of its step: what is judged there
leaves the port alone. -/
theorem shows_of_request {α : Type} {s u : State} {k : ReqKind} {a : α} {own : State → α → State × Reply} {t : Nat}
    {st : Status} {b : AnswerBody} (hf : s.Free) (h : (own (s.advance t).quiet a).2 = .answer st b)
    (e : State.done ((s.advance t).request k (.fits a) own) = .next u) : u.shows k st b := by
  rw [request_finished (u := (own (s.advance t).quiet a).1) hf (Prod.ext rfl h)] at e
  rw [← Host.Outcome.next.inj e]
  exact congrArg Port.state (framed_finish framed_port _)

/-- Settles O17: R28's refusals in order and its sameness of tags from `namesLoad_judged`, and R50 from
`powerRequest_judged`. -/
theorem namedRequestsJudged : Obligations.NamedRequestsJudged := by
  refine ⟨fun t k e f s h hs hf => ?_, fun t i k f g l s h hs hf hn => ?_⟩
  · obtain ⟨judge, run, same⟩ := namesLoad_judged h
    refine ⟨?_, fun g h0 hr => ?_, fun g i l r hn he hr => ?_, fun i l hd hl g hg => ?_⟩
    · rw [run]
      exact request_answered hf rfl (settled_advance t hs)
    · rw [run]
      exact request_answered hf (namedExpecting_unknown h0 hr) (settled_advance t hs)
    · subst he
      rw [run]
      exact request_answered hf (namedExpecting_stale (s := (s.advance t).quiet) hn hr) (settled_advance t hs)
    · have named := names_of_mem_tags (s := (s.advance t).quiet) hd hl hg
      have byLoadTag := names_of_mem_tags (s := (s.advance t).quiet) hd hl (List.mem_cons_self ..)
      refine ⟨named.2.1, ?_⟩
      rw [run, run, request_free (free_advance t hf), request_free (free_advance t hf), same g l.tag,
        namedExpecting_congr named byLoadTag]
  · obtain ⟨own, run, busy, plain⟩ := powerRequest_judged h
    refine ⟨fun ha => ?_, fun u e => ?_⟩
    · rw [run]
      exact request_answered hf (busy (s.advance t).quiet g i l hn ha) (settled_advance t hs)
    · obtain ⟨st, answered⟩ := plain (s.advance t).quiet g
      rw [run] at e
      exact ⟨st, shows_of_request hf answered e⟩

end Sys2Proof.Machine.Laws
end

section
/-! PROOFS. The 92 bytes of a LOOKUP answer (R215): the places of a byte list at which given bytes stand, what the
writers of `LookupView.bytes` put there, and the layout read off field by field. -/

namespace Sys2Proof.Machine.Laws

/-! ### Bytes at a place -/

/-- The bytes `seg` stand in `bytes` from a place on. -/
def standsAt (bytes : List Byte) (place : Nat) (seg : List Byte) : Prop :=
  ∀ j b, seg[j]? = some b → bytes[place + j]? = some b

theorem standsAt_self (bytes : List Byte) : standsAt bytes 0 bytes := fun j b h => by rwa [Nat.zero_add]

theorem standsAt_nil (bytes : List Byte) (place : Nat) : standsAt bytes place [] := fun j b h => by simp at h

theorem standsAt_cons {bytes seg : List Byte} {place : Nat} {b : Byte} :
    standsAt bytes place (b :: seg) ↔ bytes[place]? = some b ∧ standsAt bytes (place + 1) seg := by
  constructor
  · refine fun h => ⟨h 0 b rfl, fun j c hj => ?_⟩
    rw [Nat.add_assoc, Nat.add_comm 1 j]
    exact h (j + 1) c hj
  · rintro ⟨first, rest⟩ (_ | j) c hj
    · simpa using hj ▸ first
    · rw [Nat.add_comm j 1, ← Nat.add_assoc]
      exact rest j c (by simpa using hj)

theorem standsAt_append {bytes xs ys : List Byte} {place : Nat} :
    standsAt bytes place (xs ++ ys) ↔ standsAt bytes place xs ∧ standsAt bytes (place + xs.length) ys := by
  induction xs generalizing place with
  | nil => simp [standsAt_nil]
  | cons x xs ih =>
    rw [List.cons_append, standsAt_cons, standsAt_cons, ih, and_assoc, List.length_cons, Nat.add_assoc place 1,
      Nat.add_comm 1]

/-- Zeros stand where an absent field is written. -/
theorem zerosAt_of_standsAt {bytes : List Byte} {place n : Nat} (h : standsAt bytes place (List.replicate n 0)) :
    zerosAt bytes place n := fun j hj => h j 0 (by simp [hj])

theorem standsAt_byteOf {bytes seg : List Byte} {place n : Nat} :
    standsAt bytes place (byteOf n :: seg) ↔ byteAt bytes place n ∧ standsAt bytes (place + 1) seg := standsAt_cons

theorem standsAt_bytes2 {bytes : List Byte} {place n : Nat} :
    standsAt bytes place (bytes2 n) ↔ twoAt bytes place n := by
  simp [bytes2, standsAt_byteOf, standsAt_nil, twoAt]

theorem standsAt_bytes4 {bytes : List Byte} {place n : Nat} :
    standsAt bytes place (bytes4 n) ↔ fourAt bytes place n := by
  have halves : bytes4 n = bytes2 (n / 65536) ++ bytes2 n := by
    simp [bytes4, bytes2, Nat.div_div_eq_div_mul]
  rw [halves, standsAt_append, standsAt_bytes2, standsAt_bytes2]
  rfl

/-! ### What the writers put there -/

@[simp] theorem bytes2_length (n : Nat) : (bytes2 n).length = 2 := rfl
@[simp] theorem bytes4_length (n : Nat) : (bytes4 n).length = 4 := rfl
@[simp] theorem tagBytes_length (g : Tag) : (tagBytes g).length = 4 := rfl
@[simp] theorem watchPolicyBytes_length (p : Option WatchPolicy) : (watchPolicyBytes p).length = 9 := by
  cases p <;> rfl
@[simp] theorem cyclePolicyBytes_length (p : Option CyclePolicy) : (cyclePolicyBytes p).length = 4 := by
  cases p <;> rfl
@[simp] theorem outcomeBytes_length (o : Option LastOutcome) : (outcomeBytes o).length = 3 := by cases o <;> rfl
@[simp] theorem stagedBytes_length (p : Option PolicyChange) : (stagedBytes p).length = 15 := by
  cases p <;> simp [stagedBytes]

@[simp] theorem entrySlots_length (n : Nat) (es : List OutletRes) : (entrySlots n es).length = 3 * n := by
  induction n generalizing es with
  | zero => rfl
  | succ n ih =>
    cases es with
    | nil => simp [entrySlots, ih, Nat.mul_succ]
    | cons e es => simp [entrySlots, ih]; omega

@[simp] theorem tagSlots_length (n : Nat) (gs : List Tag) : (tagSlots n gs).length = 4 * n := by
  induction n generalizing gs with
  | zero => rfl
  | succ n ih =>
    cases gs with
    | nil => simp [tagSlots, ih, Nat.mul_succ]
    | cons g gs => simp [tagSlots, ih]; omega

theorem watchPolicyAt_of_standsAt {bytes : List Byte} {place : Nat} {p : Option WatchPolicy}
    (h : standsAt bytes place (watchPolicyBytes p)) : watchPolicyAt bytes place p := by
  cases p with
  | none => exact zerosAt_of_standsAt h
  | some p =>
    simp only [watchPolicyBytes, standsAt_append, standsAt_byteOf, standsAt_bytes2, standsAt_nil, List.cons_append,
      List.length_append, List.length_cons, List.length_nil, bytes2_length, Nat.add_assoc, and_assoc] at h
    obtain ⟨mode, interval, miss, -, span, band, -, grace⟩ := h
    exact ⟨mode, interval, miss, span, band, grace⟩

theorem cyclePolicyAt_of_standsAt {bytes : List Byte} {place : Nat} {p : Option CyclePolicy}
    (h : standsAt bytes place (cyclePolicyBytes p)) : cyclePolicyAt bytes place p := by
  cases p with
  | none => exact zerosAt_of_standsAt h
  | some p =>
    simp only [cyclePolicyBytes, standsAt_byteOf, Nat.add_assoc] at h
    obtain ⟨dwell, auto, threshold, action, -⟩ := h
    exact ⟨dwell, auto, threshold, action⟩

/-- The three bytes of one entry of an outlet list, or zeros (the form of `entriesAt`). -/
def entryAt (bytes : List Byte) (place : Nat) : Option OutletRes → Prop
  | some e => byteAt bytes place e.outlet ∧ twoAt bytes (place + 1) e.res
  | none => zerosAt bytes place 3

theorem entryAt_of_standsAt {bytes : List Byte} {n : Nat} {es : List OutletRes} {place : Nat}
    (h : standsAt bytes place (entrySlots n es)) (j : Nat) (hj : j < n) : entryAt bytes (place + 3 * j) es[j]? := by
  induction n generalizing es place j with
  | zero => omega
  | succ n ih =>
    have further : ∀ k, place + 3 * (k + 1) = place + 3 + 3 * k := by omega
    cases es with
    | nil =>
      obtain ⟨entry, rest⟩ := standsAt_append.mp h
      cases j with
      | zero => exact zerosAt_of_standsAt entry
      | succ j => rw [further]; exact ih rest j (by omega)
    | cons e es =>
      obtain ⟨outlet, tail⟩ := standsAt_byteOf.mp h
      obtain ⟨res, rest⟩ := standsAt_append.mp tail
      cases j with
      | zero => exact ⟨outlet, standsAt_bytes2.mp res⟩
      | succ j => rw [further]; exact ih rest j (by omega)

/-- Entries written in three bytes each stand one after the other, the unused ones 0. -/
theorem entriesAt_of_standsAt {bytes : List Byte} {es : List OutletRes} {place : Nat}
    (h : standsAt bytes place (entrySlots 4 es)) : entriesAt bytes place es := entryAt_of_standsAt h

/-- Tags written in four bytes each stand one after the other, the unused ones 0. -/
theorem tagsAt_of_standsAt {bytes : List Byte} {n : Nat} {gs : List Tag} {place : Nat}
    (h : standsAt bytes place (tagSlots n gs)) (j : Nat) (hj : j < n) :
    fourAt bytes (place + 4 * j) ((gs[j]?.getD 0).toNat) := by
  induction n generalizing gs place j with
  | zero => omega
  | succ n ih =>
    have further : ∀ k, place + 4 * (k + 1) = place + 4 + 4 * k := by omega
    cases gs with
    | nil =>
      obtain ⟨tag, rest⟩ := standsAt_append.mp h
      cases j with
      | zero => exact standsAt_bytes4.mp tag
      | succ j => rw [further]; exact ih rest j (by omega)
    | cons g gs =>
      obtain ⟨tag, rest⟩ := standsAt_append.mp h
      cases j with
      | zero => exact standsAt_bytes4.mp tag
      | succ j => rw [further]; exact ih rest j (by omega)

/-- The three bytes of a last outcome, or zeros, with the codes of R215 spelled out. -/
theorem outcomeAt_of_standsAt {bytes : List Byte} {place : Nat} {o : Option LastOutcome}
    (h : standsAt bytes place (outcomeBytes o)) :
    (o = none → zerosAt bytes place 3) ∧
    ∀ x, o = some x → byteAt bytes place (outcomeCode x.outcome) ∧
      byteAt bytes (place + 1) x.outcome.reasonNumber ∧ byteAt bytes (place + 2) (causeCode x.cause) := by
  constructor
  · rintro rfl
    exact zerosAt_of_standsAt h
  · rintro x rfl
    have reason : outcomeReasonCode x.outcome = x.outcome.reasonNumber := by
      cases x.outcome with
      | done => rfl
      | cancelled => rfl
      | failed r => cases r <;> rfl
      | abandoned r => cases r <;> rfl
    simp only [outcomeBytes, standsAt_byteOf, Nat.add_assoc, reason] at h
    obtain ⟨outcome, number, cause, -⟩ := h
    exact ⟨outcome, number, cause⟩

/-! ### Indicator bytes -/

/-- The number whose bits below `n` are given. -/
def bitSum (bits : Nat → Bool) : Nat → Nat
  | 0 => 0
  | n + 1 => bitSum bits n + bitAt n (bits n)

theorem bitSum_lt (bits : Nat → Bool) (n : Nat) : bitSum bits n < 2 ^ n := by
  induction n with
  | zero => simp [bitSum]
  | succ n ih =>
    rw [bitSum, bitAt, Nat.pow_succ]
    split <;> omega

theorem testBit_bitSum (bits : Nat → Bool) {n j : Nat} (hj : j < n) : (bitSum bits n).testBit j = bits j := by
  induction n with
  | zero => omega
  | succ n ih =>
    have lower := bitSum_lt bits n
    rw [bitSum, bitAt]
    rcases Nat.lt_or_eq_of_le (Nat.le_of_lt_succ hj) with hlt | rfl
    · rw [← ih hlt]
      split
      · rw [Nat.add_comm, Nat.testBit_two_pow_add_gt hlt]
      · rw [Nat.add_zero]
    · split
      · next hb => rw [Nat.add_comm, Nat.testBit_two_pow_add_eq, Nat.testBit_lt_two_pow lower, hb]; rfl
      · next hb => rw [Nat.add_zero, Nat.testBit_lt_two_pow lower, Bool.of_not_eq_true hb]

/-- The bits of an indicator byte. -/
theorem getLsbD_bitSum (bits : Nat → Bool) {j : Nat} (hj : j < 8) :
    (byteOf (bitSum bits 8)).getLsbD j = bits j := by
  rw [byteOf, BitVec.getLsbD_ofNat, testBit_bitSum bits hj]
  simp [hj]

/-- The bits of a record's presence byte, in the order of R215. -/
def presenceBits (l : Load) (j : Nat) : Bool :=
  [l.wantedOn, l.pinned, l.awaiting, l.postCycleBoot, l.watchPolicy.isSome, l.staged.isSome, l.lastOutcome.isSome,
    l.powerTime.isSome].getD j false

/-- Whether a staged change replaces the watch policy. -/
def replacesWatch : Option WatchChange → Bool
  | some (.replace _) => true
  | _ => false

theorem replacesWatch_iff (c : Option WatchChange) : replacesWatch c = true ↔ ∃ w, c = some (.replace w) := by
  match c with
  | some (.replace w) => simp [replacesWatch]
  | some .remove => simp [replacesWatch]
  | none => simp [replacesWatch]

/-- The bits of the staged indicator byte, in the order of R215. -/
def stagedFlags (p : PolicyChange) (j : Nat) : Bool :=
  [p.prio.isSome, p.pop.isSome, replacesWatch p.watch, decide (p.watch = some .remove), p.cycle.isSome].getD j false

/-- R215's sum of indicator bits, associated to the right as the reading of the layout leaves it. -/
theorem presence_eq_bitSum (l : Load) :
    bitAt 0 l.wantedOn + (bitAt 1 l.pinned + (bitAt 2 l.awaiting + (bitAt 3 l.postCycleBoot +
      (bitAt 4 l.watchPolicy.isSome + (bitAt 5 l.staged.isSome + (bitAt 6 l.lastOutcome.isSome +
        bitAt 7 l.powerTime.isSome)))))) = bitSum (presenceBits l) 8 := by
  simp [bitSum, presenceBits, Nat.add_assoc]

theorem stagedBits_eq_bitSum (p : PolicyChange) : stagedBits (some p) = bitSum (stagedFlags p) 8 := by
  obtain ⟨prio, pop, watch, cycle⟩ := p
  match watch with
  | some (.replace w) => simp [stagedBits, bitSum, stagedFlags, replacesWatch, bitAt]
  | some .remove => simp [stagedBits, bitSum, stagedFlags, replacesWatch, bitAt]
  | none => simp [stagedBits, bitSum, stagedFlags, replacesWatch, bitAt]

theorem stagedAt_of_standsAt {bytes : List Byte} {p : Option PolicyChange} (hb : byteAt bytes 76 (stagedBits p))
    (h : standsAt bytes 77 (stagedBytes p)) : stagedAt bytes p := by
  cases p with
  | none => exact zerosAt_of_standsAt (place := 76) (n := 16) (standsAt_cons.mpr ⟨hb, h⟩)
  | some p =>
    simp only [stagedBytes, standsAt_byteOf, standsAt_append, watchPolicyBytes_length, Nat.reduceAdd] at h
    obtain ⟨prio, pop, watch, cycle⟩ := h
    have flag := fun j hj => getLsbD_bitSum (stagedFlags p) (j := j) hj
    refine ⟨⟨_, stagedBits_eq_bitSum p ▸ hb, flag 0 (by decide), flag 1 (by decide), ?_, ?_, flag 4 (by decide),
      flag 5 (by decide), flag 6 (by decide), flag 7 (by decide)⟩, prio, ?_, watchPolicyAt_of_standsAt watch,
      cyclePolicyAt_of_standsAt cycle⟩
    · exact (flag 2 (by decide)).symm ▸ replacesWatch_iff p.watch
    · exact (flag 3 (by decide)).symm ▸ decide_eq_true_iff
    · match hp : p.pop with
      | some .stayOff => simpa [hp, popCode] using pop
      | some .on => simpa [hp, popCode] using pop
      | some .last => simpa [hp, popCode] using pop
      | none => simpa [hp] using pop

/-! ### The cycle phase shown (R43) -/

/-- What a held context's phase is shown as. -/
def heldPhase : CyclePhase → PhaseShown
  | .opening => .opening
  | .dwell => .dwell
  | .closing => .closing

theorem phaseShown_other {s : State} {i : Nat} {l : Load} (hl : s.load i = some l) (hc : l.state ≠ .cycling) :
    s.phaseShown i = .none := by
  simp [State.phaseShown, State.loadIn, hl, hc]

theorem phaseShown_waiting {s : State} {i : Nat} {l : Load} (hl : s.load i = some l) (hc : l.state = .cycling)
    (hw : ∃ w ∈ s.waitList, w.slot = i) : s.phaseShown i = .waiting := by
  simp [State.phaseShown, State.loadIn, State.waiting, hl, hc, hw]

theorem phaseShown_held {s : State} {i : Nat} {l : Load} {c : Context} (hl : s.load i = some l)
    (hc : l.state = .cycling) (hw : ∀ w ∈ s.waitList, w.slot ≠ i) (hx : s.cycleOf i = some c) :
    s.phaseShown i = heldPhase c.phase := by
  have waits : s.waiting i = false := by simpa [State.waiting] using hw
  simp only [State.phaseShown, State.loadIn, hl, hc, waits, hx, decide_true, if_true, Bool.false_eq_true, if_false]
  cases c.phase <;> rfl

/-! ### The layout -/

theorem lookupBytes_length (v : LookupView) : v.bytes.length = 92 := by simp [LookupView.bytes]

/-- LOOKUP's body spells the record of its slot, every field of R215 in its place. -/
theorem lookupBytes_spell {s : State} {i : Nat} {l : Load} (hl : s.load i = some l) :
    s.lookupSpells i l (LookupView.bytes { slot := i, load := l, phase := s.phaseShown i }) := by
  generalize spelled : LookupView.bytes { slot := i, load := l, phase := s.phaseShown i } = bytes
  have length : bytes.length = 92 := spelled ▸ lookupBytes_length _
  have layout := standsAt_self bytes
  conv at layout => arg 3; rw [← spelled, LookupView.bytes]
  simp only [standsAt_append, standsAt_byteOf, standsAt_bytes2, standsAt_bytes4, standsAt_nil, List.cons_append,
    List.nil_append, List.length_append, List.length_cons, List.length_nil, tagBytes, bytes2_length, bytes4_length,
    watchPolicyBytes_length, cyclePolicyBytes_length, outcomeBytes_length, entrySlots_length, tagSlots_length,
    Nat.add_assoc, Nat.reduceAdd, Nat.reduceMul, and_assoc, true_and] at layout
  obtain ⟨slot, tag, revision, presence, state, phase, watch, reason, prio, pop, strikes, notices, watchPolicy,
    cyclePolicy, outcome, powerTime, localCount, peerCount, aliasCount, locals, peers, aliases, stagedFields,
    stagedValues⟩ := layout
  refine ⟨length, slot, tag, ?_, ?_, ?_, ?_, localCount, peerCount, aliasCount,
    entriesAt_of_standsAt locals, entriesAt_of_standsAt peers, tagsAt_of_standsAt aliases,
    stagedAt_of_standsAt stagedFields stagedValues⟩
  · rw [presence_eq_bitSum] at presence
    have bit := fun j hj => getLsbD_bitSum (presenceBits l) (j := j) hj
    refine ⟨revision, ⟨_, presence, bit 0 (by decide), bit 1 (by decide), bit 2 (by decide), bit 3 (by decide),
      bit 4 (by decide), bit 5 (by decide), bit 6 (by decide), bit 7 (by decide)⟩, state, watch, ?_, prio, pop,
      strikes, notices, watchPolicyAt_of_standsAt watchPolicy, cyclePolicyAt_of_standsAt cyclePolicy, ?_, powerTime⟩
    · exact reason
    · obtain ⟨absent, present⟩ := outcomeAt_of_standsAt outcome
      cases ho : l.lastOutcome with
      | none => exact absent ho
      | some o => exact present o ho
  · intro hc
    rwa [phaseShown_other hl hc] at phase
  · intro hc hw
    rwa [phaseShown_waiting hl hc hw] at phase
  · intro c hc hw hx
    rw [phaseShown_held hl hc hw hx] at phase
    cases hp : c.phase <;> simpa [hp, heldPhase, PhaseShown.code] using phase

end Sys2Proof.Machine.Laws
end

section
/-! PROOFS. LOOKUP, LIST and NOTICES (O27): the first eight of an ascending list of slots as a page with its more
indication, the notice sets that NOTICES empties, and the three requests' answers. -/

namespace Sys2Proof.Machine.Laws

/-! ### Pages of eight -/

/-- Entries whose slots are the first eight of an ascending list are a page of it: at most eight, ascending, leaving out
only what lies above a full page, and with more to come where the list is longer than eight. -/
theorem page_of_ascending {α : Type} {all : List Nat} (asc : all.Pairwise (· < ·)) {es : List α} {slot : α → Nat}
    (hs : es.map slot = all.take 8) :
    es.length ≤ 8 ∧ (es.map slot).Pairwise (· < ·) ∧
    (∀ i ∈ all, (∃ e ∈ es, slot e = i) ∨ (es.length = 8 ∧ ∀ e ∈ es, slot e < i)) ∧
    (8 < all.length ↔ ∃ i ∈ all, ∀ e ∈ es, slot e < i) := by
  have length : es.length = min 8 all.length := by rw [← List.length_map (f := slot), hs, List.length_take]
  have shown : ∀ e ∈ es, slot e ∈ all.take 8 := fun e he => hs ▸ List.mem_map_of_mem he
  have split : (all.take 8 ++ all.drop 8).Pairwise (· < ·) := (List.take_append_drop 8 all).symm ▸ asc
  have above : ∀ i ∈ all.drop 8, ∀ e ∈ es, slot e < i := fun i hi e he =>
    (List.pairwise_append.mp split).2.2 (slot e) (shown e he) i hi
  have onPage : ∀ i ∈ all.take 8, ∃ e ∈ es, slot e = i := fun i hi => List.mem_map.mp (hs.symm ▸ hi)
  have parts : ∀ i ∈ all, i ∈ all.take 8 ∨ i ∈ all.drop 8 := fun i hi =>
    List.mem_append.mp ((List.take_append_drop 8 all).symm ▸ hi)
  refine ⟨by omega, hs ▸ (List.pairwise_append.mp split).1, fun i hi => ?_, fun more => ?_, ?_⟩
  · rcases parts i hi with hi | hi
    · exact .inl (onPage i hi)
    · have := List.length_pos_of_mem hi
      rw [List.length_drop] at this
      exact .inr ⟨by omega, above i hi⟩
  · have : 0 < (all.drop 8).length := by rw [List.length_drop]; omega
    obtain ⟨i, hi⟩ := List.exists_mem_of_length_pos this
    exact ⟨i, List.mem_of_mem_drop hi, above i hi⟩
  · rintro ⟨i, hi, higher⟩
    rcases parts i hi with hi | hi
    · obtain ⟨e, he, rfl⟩ := onPage i hi
      exact absurd (higher e he) (Nat.lt_irrefl _)
    · have := List.length_pos_of_mem hi
      rw [List.length_drop] at this
      omega

/-- Entries formed slot by slot have the slots they are formed from. -/
theorem map_slot_filterMap {α : Type} {entry : Nat → Option α} {slot : α → Nat} {is : List Nat}
    (h : ∀ i ∈ is, ∃ e, entry i = some e ∧ slot e = i) : (is.filterMap entry).map slot = is := by
  induction is with
  | nil => rfl
  | cons i is ih =>
    obtain ⟨e, he, hi⟩ := h i (List.mem_cons_self ..)
    rw [List.filterMap_cons_some he, List.map_cons, hi, ih fun j hj => h j (List.mem_cons_of_mem _ hj)]

theorem slotNumbers_ascending : slotNumbers.Pairwise (· < ·) := List.pairwise_lt_range

theorem mem_occupied {s : State} {i : Nat} : i ∈ s.occupied ↔ (s.load i).isSome := by
  rw [State.occupied, List.mem_filter]
  refine ⟨And.right, fun h => ⟨?_, h⟩⟩
  obtain ⟨l, hl⟩ := Option.isSome_iff_exists.mp h
  exact List.mem_range.mpr (slot_lt_of_load hl)

/-! ### LIST (R44) -/

theorem mem_occupiedFrom {s : State} {first i : Nat} :
    i ∈ s.occupiedFrom first ↔ first ≤ i ∧ (s.load i).isSome := by
  simp [State.occupiedFrom, mem_occupied, and_comm]

theorem occupiedFrom_ascending (s : State) (first : Nat) : (s.occupiedFrom first).Pairwise (· < ·) :=
  (slotNumbers_ascending.filter _).filter _

theorem listEntry_eq_some {s : State} {i : Nat} {e : ListEntry} :
    s.listEntry i = some e ↔
      ∃ l, s.load i = some l ∧ { slot := i, tag := l.tag, shown := s.stateShown i l, revision := l.revision } = e :=
  Option.map_eq_some_iff

/-- What LIST shows of a record's state is what R44 asks. -/
theorem stateShown_shows {s : State} {i : Nat} {l : Load} (hl : s.load i = some l) :
    s.showsState i l (s.stateShown i l) := by
  refine ⟨rfl, rfl, fun hq => if_pos hq, fun hq => if_neg hq, phaseShown_other hl, phaseShown_waiting hl, ?_⟩
  intro c hc hw hx
  exact phaseShown_held hl hc hw hx

theorem listEntries_slots (s : State) (first : Nat) :
    (((s.occupiedFrom first).take 8).filterMap s.listEntry).map (·.slot) = (s.occupiedFrom first).take 8 := by
  refine map_slot_filterMap fun i hi => ?_
  obtain ⟨l, hl⟩ := Option.isSome_iff_exists.mp (mem_occupiedFrom.mp (List.mem_of_mem_take hi)).2
  exact ⟨_, listEntry_eq_some.mpr ⟨l, hl, rfl⟩, rfl⟩

theorem list_taken {first : Nat} (s : State) (h : first < 40) :
    s.list first = (s, .answer .done (s.listBody first)) := if_pos h

theorem list_refused {first : Nat} (s : State) (h : 40 ≤ first) : s.list first = (s, .plain .badRequest) :=
  if_neg (Nat.not_lt.mpr h)

/-! ### NOTICES (R67) -/

theorem mem_noticed {s : State} {i : Nat} : i ∈ s.noticed ↔ ∃ l, s.load i = some l ∧ l.notices ≠ 0 := by
  rw [State.noticed, List.mem_filter, mem_occupied]
  cases hl : s.load i with
  | none => simp
  | some l => simp

theorem noticed_ascending (s : State) : s.noticed.Pairwise (· < ·) :=
  (slotNumbers_ascending.filter _).filter _

theorem noticeEntry_eq_some {s : State} {i : Nat} {e : NoticeEntry} :
    s.noticeEntry i = some e ↔ ∃ l, s.load i = some l ∧ { slot := i, tag := l.tag, set := l.notices } = e :=
  Option.map_eq_some_iff

theorem noticeEntries_slots (s : State) :
    ((s.noticed.take 8).filterMap s.noticeEntry).map (·.slot) = s.noticed.take 8 := by
  refine map_slot_filterMap fun i hi => ?_
  obtain ⟨l, hl, -⟩ := mem_noticed.mp (List.mem_of_mem_take hi)
  exact ⟨_, noticeEntry_eq_some.mpr ⟨l, hl, rfl⟩, rfl⟩

/-- The notice sets of the records of some slots are emptied, as NOTICES does in turn. -/
def emptyNotices (s : State) (is : List Nat) : State :=
  is.foldl (fun s i => s.modLoad i fun l => { l with notices := 0 }) s

/-- Emptying notice sets changes the slots alone. -/
theorem emptyNotices_slots (is : List Nat) (s : State) : ∃ v, emptyNotices s is = { s with slots := v } := by
  induction is generalizing s with
  | nil => exact ⟨s.slots, rfl⟩
  | cons i is ih =>
    obtain ⟨v, hv⟩ := modLoad_slots s i fun l => { l with notices := 0 }
    obtain ⟨w, hw⟩ := ih { s with slots := v }
    exact ⟨w, by rw [← hw, ← hv]; rfl⟩

/-- Which records emptying notice sets changes. -/
theorem load_emptyNotices (is : List Nat) (s : State) (j : Nat) :
    (emptyNotices s is).load j =
      if j ∈ is then (s.load j).map fun l => { l with notices := 0 } else s.load j := by
  induction is generalizing s with
  | nil => rfl
  | cons i is ih =>
    have step := ih (s.modLoad i fun l => { l with notices := 0 })
    rw [load_modLoad] at step
    refine step.trans ?_
    by_cases hij : i = j
    · subst hij
      by_cases hi : i ∈ is <;> simp [hi, Function.comp_def]
    · by_cases hj : j ∈ is <;> simp [hij, hj, Ne.symm hij]

theorem readNotices_eq (s : State) :
    s.readNotices () = (emptyNotices s (s.noticed.take 8), .answer .done s.noticesBody) := rfl

/-! ### The three requests -/

/-- LOOKUP answers the bytes of the record and changes the port alone (R43). -/
theorem exec_lookup_known {s : State} {t i : Nat} {g : Tag} {l : Load} (hs : s.Settled) (hf : s.Free)
    (hn : s.names g i l) :
    exec (.lookup t (.fits g)) s = .next ((s.advance t).answered .lookup .done
      (.lookup (LookupView.bytes { slot := i, load := l, phase := s.phaseShown i }))) :=
  request_answered hf (named_known (s := (s.advance t).quiet) hn) (settled_advance t hs)

/-- LIST answers its page and changes the port alone (R44). -/
theorem exec_list_taken {s : State} {t first : Nat} (hs : s.Settled) (hf : s.Free) (h : first < 40) :
    exec (.list t (.fits first)) s = .next ((s.advance t).answered .list .done (s.listBody first)) :=
  request_answered hf (list_taken (s.advance t).quiet h) (settled_advance t hs)

theorem exec_list_refused {s : State} {t first : Nat} (hs : s.Settled) (hf : s.Free) (h : 40 ≤ first) :
    exec (.list t (.fits first)) s = .next ((s.advance t).answered .list .badRequest .nothing) :=
  request_answered hf (list_refused (s.advance t).quiet h) (settled_advance t hs)

/-- NOTICES answers its page; in the slots of the page, and there alone, the notice set is emptied (R67). -/
theorem exec_notices_taken {s : State} {t : Nat} (hs : s.Settled) (hf : s.Free) :
    ∃ v, exec (.notices t (.fits ())) s =
        .next (({ s.advance t with slots := v } : State).answered .notices .done s.noticesBody) ∧
      ∀ j, ({ s.advance t with slots := v } : State).load j =
        if j ∈ s.noticed.take 8 then (s.load j).map fun l => { l with notices := 0 } else s.load j := by
  obtain ⟨v, hv⟩ := emptyNotices_slots (s.noticed.take 8) (s.advance t).quiet
  refine ⟨v, request_answered hf ?_ hs, fun j => ?_⟩
  · rw [readNotices_eq]
    exact Prod.ext hv rfl
  · have read := load_emptyNotices (s.noticed.take 8) (s.advance t).quiet j
    rw [hv] at read
    exact read

/-- The page of LIST from a slot. -/
theorem listPage (s : State) (first : Nat) :
    let es := ((s.occupiedFrom first).take 8).filterMap s.listEntry
    es.length ≤ 8 ∧ (es.map (·.slot)).Pairwise (· < ·) ∧
    (∀ e ∈ es, first ≤ e.slot ∧
      ∃ l, s.load e.slot = some l ∧ e.tag = l.tag ∧ s.showsState e.slot l e.shown ∧ e.revision = l.revision) ∧
    (∀ i, first ≤ i → (s.load i).isSome →
      (∃ e ∈ es, e.slot = i) ∨ (es.length = 8 ∧ ∀ e ∈ es, e.slot < i)) ∧
    (8 < (s.occupiedFrom first).length ↔ ∃ i, first ≤ i ∧ (s.load i).isSome ∧ ∀ e ∈ es, e.slot < i) := by
  intro es
  obtain ⟨short, asc, complete, more⟩ :=
    page_of_ascending (occupiedFrom_ascending s first) (listEntries_slots s first)
  refine ⟨short, asc, fun e he => ?_, fun i hi hl => complete i (mem_occupiedFrom.mpr ⟨hi, hl⟩), ?_⟩
  · obtain ⟨i, hi, hie⟩ := List.mem_filterMap.mp he
    obtain ⟨l, hl, rfl⟩ := listEntry_eq_some.mp hie
    exact ⟨(mem_occupiedFrom.mp (List.mem_of_mem_take hi)).1, l, hl, rfl, stateShown_shows hl, rfl⟩
  · simp only [more, mem_occupiedFrom, and_assoc]
    rfl

/-- The page of NOTICES: its entries are the records of the first eight slots with notices. -/
theorem noticesPage (s : State) :
    let es := (s.noticed.take 8).filterMap s.noticeEntry
    es.length ≤ 8 ∧ (es.map (·.slot)).Pairwise (· < ·) ∧
    (∀ e ∈ es, e.slot ∈ s.noticed.take 8 ∧
      ∃ l, s.load e.slot = some l ∧ e.tag = l.tag ∧ e.set = l.notices ∧ l.notices ≠ 0) ∧
    (∀ i l, s.load i = some l → l.notices ≠ 0 →
      (∃ e ∈ es, e.slot = i) ∨ (es.length = 8 ∧ ∀ e ∈ es, e.slot < i)) ∧
    (8 < s.noticed.length ↔ ∃ i l, s.load i = some l ∧ l.notices ≠ 0 ∧ ∀ e ∈ es, e.slot < i) := by
  intro es
  obtain ⟨short, asc, complete, more⟩ := page_of_ascending (noticed_ascending s) (noticeEntries_slots s)
  refine ⟨short, asc, fun e he => ?_, fun i l hl h0 => complete i (mem_noticed.mpr ⟨l, hl, h0⟩), more.trans ?_⟩
  · obtain ⟨i, hi, hie⟩ := List.mem_filterMap.mp he
    obtain ⟨l, hl, h0⟩ := mem_noticed.mp (List.mem_of_mem_take hi)
    obtain ⟨m, hm, rfl⟩ := noticeEntry_eq_some.mp hie
    obtain rfl : l = m := Option.some.inj (hl.symm.trans hm)
    exact ⟨hi, l, hl, rfl, rfl, h0⟩
  · simp only [mem_noticed]
    exact exists_congr fun i =>
      ⟨fun ⟨⟨l, hl, h0⟩, hi⟩ => ⟨l, hl, h0, hi⟩, fun ⟨l, hl, h0, hi⟩ => ⟨⟨l, hl, h0⟩, hi⟩⟩

/-- Settles O27: LOOKUP by the layout of its bytes, LIST and NOTICES by their pages. -/
theorem tableIsRead : Obligations.TableIsRead := by
  intro t s hs hf
  refine ⟨fun i g l hn => ⟨_, exec_lookup_known hs hf hn, lookupBytes_spell hn.2.2⟩,
    fun first h => exec_list_refused hs hf h, fun first h => ?_, ?_⟩
  · obtain ⟨short, asc, each, complete, more⟩ := listPage s first
    exact ⟨_, _, exec_list_taken hs hf h, short, asc, each, complete, decide_eq_true_iff.trans more⟩
  · obtain ⟨v, run, read⟩ := exec_notices_taken (t := t) hs hf
    obtain ⟨short, asc, each, complete, more⟩ := noticesPage s
    refine ⟨_, _, _, run, short, asc, fun e he => ?_, fun j hj => ?_, complete, decide_eq_true_iff.trans more,
      rfl, rfl, rfl⟩
    · obtain ⟨onPage, l, hl, tag, set, h0⟩ := each e he
      refine ⟨l, hl, tag, set, h0, ?_⟩
      rw [read, if_pos onPage, hl]
      rfl
    · have offPage : j ∉ s.noticed.take 8 := fun hj' => by
        obtain ⟨e, he, hej⟩ := List.mem_map.mp (noticeEntries_slots s ▸ hj')
        exact hj e he hej
      rw [read, if_neg offPage]

end Sys2Proof.Machine.Laws
end

section
/-! PROOFS. A field of the load records read over a whole load table: what notices, latches, orders, moves between load
states and the opening of a load's outlets leave of it. -/

namespace Sys2Proof.Machine.Laws

/-! ### Fields of the records -/

/-- One field of every record of the load table, by slot; no value for an empty slot. -/
def column {α : Type} (f : Load → α) (s : State) (i : Nat) : Option α := (s.load i).map f

/-- A field that the records' bookkeeping leaves: notices, revisions, orders and applied policies. -/
structure Lasting {α : Type} (f : Load → α) : Prop where
  notices : ∀ l v, f { l with notices := v } = f l := by intros; rfl
  revision : ∀ l v, f { l with revision := v } = f l := by intros; rfl
  order : ∀ l v, f { l with order := v } = f l := by intros; rfl
  applied : ∀ l p take now, f { Load.applied l p take now with staged := none } = f l

/-- An applied policy leaves the record's state and its last outcome. -/
theorem applied_leaves (l : Load) (p : PolicyChange) (take : Bool) (now : Nat) :
    (Load.applied l p take now).state = l.state ∧ (Load.applied l p take now).lastOutcome = l.lastOutcome := by
  have takenUp : ∀ m : Load, (m.takeUp now).state = m.state ∧ (m.takeUp now).lastOutcome = m.lastOutcome := fun m => by
    unfold Load.takeUp
    split <;> exact ⟨rfl, rfl⟩
  unfold Load.applied
  dsimp only
  split
  · exact takenUp _
  · exact ⟨rfl, rfl⟩

theorem lasting_state : Lasting Load.state where
  applied l p take now := (applied_leaves l p take now).1

theorem lasting_lastOutcome : Lasting Load.lastOutcome where
  applied l p take now := (applied_leaves l p take now).2

section
variable {α : Type} {f : Load → α}

/-- What leaves the slots leaves every field of the records. -/
theorem column_of_slots {s t : State} (h : t.slots = s.slots) : column f t = column f s := by
  funext i
  simp only [column, State.load, State.slot, h]

/-- A changed record changes its fields alone. -/
theorem column_modLoad (s : State) (i j : Nat) (g : Load → Load) :
    column f (s.modLoad i g) j = if i = j then (s.load j).map (f ∘ g) else column f s j := by
  unfold column
  rw [load_modLoad]
  split
  · exact Option.map_map ..
  · rfl

/-- A change of a record that leaves the field leaves it everywhere. -/
theorem column_modLoad_leaves {g : Load → Load} (hg : ∀ l, f (g l) = f l) (s : State) (i : Nat) :
    column f (s.modLoad i g) = column f s := by
  funext j
  rw [column_modLoad, show f ∘ g = f from funext hg]
  exact ite_self _

/-- A record put into an occupied slot is a change of its record. -/
theorem column_setLoad_leaves {s : State} {i : Nat} {l m : Load} (hl : s.load i = some l) (hm : f m = f l) :
    column f (s.setLoad i m) = column f s := by
  funext j
  unfold column
  rw [load_setLoad hl]
  split
  · next hij => rw [← hij, hl, Option.map_some, Option.map_some, hm]
  · rfl

theorem column_notice (k : Lasting f) (s : State) (i : Nat) (n : Notice) :
    column f (s.notice i n) = column f s := by
  unfold State.notice
  split
  · next l hl => exact column_setLoad_leaves hl (k.notices ..)
  · rfl

theorem column_bumpRevision (k : Lasting f) (s : State) (i : Nat) : column f (s.bumpRevision i) = column f s := by
  unfold State.bumpRevision
  split
  · next l hl =>
    funext j
    unfold column
    rw [load_setSlot]
    split
    · next hij => rw [← hij.1, hl]; exact congrArg some (k.revision ..)
    · rfl
  · rfl

theorem column_latch (k : Lasting f) (s : State) (i : Nat) (take : Bool) :
    column f (s.latch i take) = column f s := by
  unfold State.latch
  split
  · next l hl =>
    split
    · rw [column_notice k, column_bumpRevision k]
      exact column_setLoad_leaves hl (k.applied ..)
    · rfl
  · rfl

theorem column_sendOrder (k : Lasting f) (s : State) (i : Nat) (kind : OrderKind) (sender : Sender) (limit : Nat)
    (frame : Tag → Nat → LinkFrame) : column f (s.sendOrder i kind sender limit frame) = column f s := by
  unfold State.sendOrder
  split
  · next l hl => exact column_setLoad_leaves (s := { s with link := _ }) hl (k.order ..)
  · rfl

theorem column_dropPeers (k : Lasting f) (s : State) (i : Nat) (sender : Sender) :
    column f (s.dropPeers i sender) = column f s := by
  unfold State.dropPeers
  split
  · split
    · exact column_sendOrder k ..
    · exact column_notice k ..
  · rfl

end

/-! ### What leaves the slots -/

theorem foldl_slots {α : Type} {f : State → α → State} (leaves : ∀ s a, (f s a).slots = s.slots) (as : List α)
    (s : State) : (as.foldl f s).slots = s.slots :=
  List.foldlRecOn (motive := fun r => r.slots = s.slots) as f rfl fun r hr a _ => (leaves r a).trans hr

@[simp] theorem gateDue_slots (s : State) (b : Nat) : (s.gateDue b).slots = s.slots := by
  unfold State.gateDue
  split <;> rfl

@[simp] theorem withdraw_slots (s : State) (n : Nat) : (s.withdraw n).slots = s.slots := by
  unfold State.withdraw
  split
  · exact gateDue_slots ..
  · rfl

@[simp] theorem openRequest_slots (s : State) (n : Nat) : (s.openRequest n).slots = s.slots := by
  unfold State.openRequest
  dsimp only
  split
  · exact withdraw_slots ..
  · exact withdraw_slots ..
  · split
    · exact withdraw_slots ..
    · exact withdraw_slots ..

@[simp] theorem setShedList_slots (s : State) (b : Nat) (l : List ShedEntry) :
    (s.setShedList b l).slots = s.slots := by
  unfold State.setShedList
  dsimp only
  split
  · unfold State.listDue
    split <;> rfl
  · rfl

@[simp] theorem dropVictim_slots (s : State) (v : Victim) : (s.dropVictim v).slots = s.slots := by
  unfold State.dropVictim State.onShedLists
  dsimp only
  rw [setExtList_slots, foldl_slots]
  exact fun _ _ => setShedList_slots ..

@[simp] theorem clearShed_slots (s : State) (ns : List Nat) : (s.clearShed ns).slots = s.slots :=
  foldl_slots (f := fun s n => s.modOutlet n fun o => { o with shed := false }) (fun _ _ => rfl) ns s

@[simp] theorem clearLineLost_slots (s : State) (ns : List Nat) : (s.clearLineLost ns).slots = s.slots :=
  foldl_slots (f := fun s n => s.modOutlet n fun o => { o with lineLost := false }) (fun _ _ => rfl) ns s

@[simp] theorem withdrawAll_slots (s : State) (ns : List Nat) : (s.withdrawAll ns).slots = s.slots :=
  foldl_slots withdraw_slots ns s

@[simp] theorem openClosed_slots (s : State) (ns : List Nat) : (s.openClosed ns).slots = s.slots := by
  refine foldl_slots (fun t n => ?_) ns s
  split
  · exact openRequest_slots ..
  · rfl

@[simp] theorem unshedLoad_slots (s : State) (i : Nat) : (s.unshedLoad i).slots = s.slots :=
  (clearShed_slots ..).trans (dropVictim_slots ..)

/-- Asking a load's outlets to be open for good leaves the load table. -/
@[simp] theorem openLoad_slots (s : State) (i : Nat) : (s.openLoad i).slots = s.slots := by
  simp [State.openLoad, State.restOpen]

@[simp] theorem modCycle_slots (s : State) (i : Nat) (f : Context → Context) :
    (s.modCycle i f).slots = s.slots := by
  unfold State.modCycle
  split
  · split <;> rfl
  · rfl

@[simp] theorem judgeOpening_slots (s : State) (i : Nat) : (s.judgeOpening i).slots = s.slots := by
  unfold State.judgeOpening
  split
  · split
    · exact modCycle_slots ..
    · rfl
  · rfl

/-! ### States -/

/-- A move puts the load into its new state and leaves the states of the others, a latch at the move included. -/
theorem state_moveTo (s : State) (i j : Nat) (st : LoadState) :
    column Load.state (s.moveTo i st) j = if i = j then (s.load j).map fun _ => st else column Load.state s j := by
  unfold State.moveTo
  split
  · next l hl =>
    have put : column Load.state (s.setLoad i (Load.inState l st)) j =
        if i = j then (s.load j).map fun _ => st else column Load.state s j := by
      unfold column
      rw [load_setLoad hl]
      split
      · next hij => rw [← hij, hl]; rfl
      · rfl
    dsimp only
    split
    · rw [column_latch lasting_state, put]
    · exact put
  · next hl =>
    split
    · next hij => rw [column, ← hij, hl]; rfl
    · rfl

/-- The judgement of a stop leaves a STOPPING load so or takes it to UNPOWERED (R58). -/
theorem state_judgeStop {s : State} {i : Nat} (h : column Load.state s i = some .stopping) :
    column Load.state (s.judgeStop i) i = some .stopping ∨
      column Load.state (s.judgeStop i) i = some .unpowered := by
  obtain ⟨l, hl, -⟩ := Option.map_eq_some_iff.mp h
  unfold State.judgeStop
  split
  · right
    rw [state_moveTo, if_pos rfl, hl]
    rfl
  · exact .inl h

/-- A stop leaves its load STOPPING or UNPOWERED (R57, R58). -/
theorem state_stop {s : State} {i : Nat} (h : (s.load i).isSome) :
    column Load.state (s.stop i) i = some .stopping ∨ column Load.state (s.stop i) i = some .unpowered := by
  obtain ⟨l, hl⟩ := Option.isSome_iff_exists.mp h
  refine state_judgeStop ?_
  rw [column_dropPeers lasting_state, column_of_slots (openLoad_slots ..), column_modLoad_leaves, state_moveTo,
    if_pos rfl, hl]
  · rfl
  · exact fun _ => rfl

/-! ### Last outcomes -/

section
variable (s : State) (i : Nat)

/-- A move between load states writes no outcome. -/
theorem outcome_moveTo (st : LoadState) :
    column Load.lastOutcome (s.moveTo i st) = column Load.lastOutcome s := by
  unfold State.moveTo
  split
  · next l hl =>
    have put : column Load.lastOutcome (s.setLoad i (Load.inState l st)) = column Load.lastOutcome s :=
      column_setLoad_leaves hl rfl
    dsimp only
    split
    · rw [column_latch lasting_lastOutcome, put]
    · exact put
  · rfl

/-- A stop writes no outcome (R57). -/
theorem outcome_stop : column Load.lastOutcome (s.stop i) = column Load.lastOutcome s := by
  have judged : ∀ t : State, column Load.lastOutcome (t.judgeStop i) = column Load.lastOutcome t := fun t => by
    unfold State.judgeStop
    split
    · exact outcome_moveTo ..
    · rfl
  unfold State.stop
  dsimp only
  rw [judged, column_dropPeers lasting_lastOutcome, column_of_slots (openLoad_slots ..),
    column_modLoad_leaves, outcome_moveTo]
  exact fun _ => rfl

theorem outcome_turnOff : column Load.lastOutcome (s.turnOff i) = column Load.lastOutcome s := by
  unfold State.turnOff
  dsimp only
  rw [column_dropPeers lasting_lastOutcome, column_of_slots (openLoad_slots ..),
    column_modLoad_leaves]
  exact fun _ => rfl

theorem outcome_quarantine (r : QuarantineReason) :
    column Load.lastOutcome (s.quarantine i r) = column Load.lastOutcome s := by
  unfold State.quarantine
  split
  · have entered : column Load.lastOutcome (((s.moveTo i .quarantined).modLoad i fun l =>
        { l with qReason := some r }).notice i .quarantined) = column Load.lastOutcome s := by
      rw [column_notice lasting_lastOutcome, column_modLoad_leaves, outcome_moveTo]
      exact fun _ => rfl
    dsimp only
    split
    · exact (outcome_turnOff ..).trans entered
    · exact entered
  · rfl

theorem outcome_strand : column Load.lastOutcome (s.strand i) = column Load.lastOutcome s := by
  rw [State.strand, column_notice lasting_lastOutcome, outcome_moveTo]

theorem outcome_cycleDrop : column Load.lastOutcome (s.cycleDrop i) = column Load.lastOutcome s := by
  unfold State.cycleDrop
  split
  · split
    · rfl
    · exact (column_of_slots (modCycle_slots ..)).trans (column_sendOrder lasting_lastOutcome ..)
  · rfl

theorem outcome_openingStart (k : Nat) (cause : Cause) :
    column Load.lastOutcome (s.openingStart k i cause) = column Load.lastOutcome s := by
  unfold State.openingStart
  dsimp only
  rw [column_of_slots (judgeOpening_slots ..), outcome_cycleDrop, column_of_slots (modCycle_slots ..),
    column_of_slots (openLoad_slots ..), column_of_slots (setContext_slots ..)]

/-- Passing a free context on writes no outcome, whichever loads leave the wait list for QUARANTINED, STRANDED or
OPENING (R87, R93). -/
theorem outcome_passOnTo (ws : List Waiter) :
    column Load.lastOutcome (s.passOnTo ws) = column Load.lastOutcome s := by
  induction ws generalizing s with
  | nil => rfl
  | cons w ws ih =>
    have left : column Load.lastOutcome { s with waitList := ws } = column Load.lastOutcome s := column_of_slots rfl
    unfold State.passOnTo
    split
    · rfl
    · dsimp only
      split
      · rw [ih, outcome_quarantine, column_latch lasting_lastOutcome, left]
      · split
        · rw [ih, outcome_strand, column_latch lasting_lastOutcome, left]
        · rw [outcome_openingStart, left]

theorem outcome_freeCycle : column Load.lastOutcome (s.freeCycle i) = column Load.lastOutcome s := by
  rw [State.freeCycle, State.passOn, outcome_passOnTo, State.dropContext, column_modLoad_leaves]
  · split <;> rfl
  · exact fun _ => rfl

end

/-- An abandoned cycle's outcome carries no notice: it stands in the record and nowhere else (R106). -/
theorem outcome_abandoned {s : State} {i : Nat} (h : (s.load i).isSome) (r : CycleReason) (cause : Cause) :
    column Load.lastOutcome (s.writeOutcome i (.abandoned r) cause) i =
      some (some { outcome := .abandoned r, cause := cause }) := by
  obtain ⟨l, hl⟩ := Option.isSome_iff_exists.mp h
  show column Load.lastOutcome (s.modLoad i fun l => { l with lastOutcome := _ }) i = _
  rw [column_modLoad, if_pos rfl, hl]
  rfl

/-- POWER_OFF of a cycle leaves ABANDONED with reason POWER_OFF in the record, whatever the cycle phase (R107). -/
theorem outcome_abandonPowerOff {s : State} {i : Nat} (h : (s.load i).isSome) :
    ∃ cause, column Load.lastOutcome (s.abandonPowerOff i) i =
      some (some { outcome := .abandoned .powerOff, cause := cause }) := by
  unfold State.abandonPowerOff
  split
  · next c hc => exact ⟨c.cause, by rw [outcome_freeCycle, outcome_abandoned h]⟩
  · exact ⟨s.waitingCause i, outcome_abandoned h ..⟩

end Sys2Proof.Machine.Laws
end

section
/-! PROOFS. POWER_ON and POWER_OFF (O28): the ranks of R51 and R56 as one equation each, and the record that a
POWER_OFF of a cycling load leaves. -/

namespace Sys2Proof.Machine.Laws

/-- The ranks of a POWER_ON of a record that awaits no adoption (R51). -/
theorem powerOn_taken {s : State} {g : Tag} {i : Nat} {l : Load} (h : s.names g i l) (ha : l.awaiting = false) :
    s.powerOn g =
      if l.state = .on ∨ l.state = .starting then s.ok
      else if l.state ≠ .unpowered ∧ l.state ≠ .shed ∧ l.state ≠ .dark then (s, .plain .wrongState)
      else if ∀ n ∈ l.outlets, (s.outlet n).service = .failed then (s, .plain .outletFailed)
      else (s.start i .powerOn).ok := by
  unfold State.powerOn State.power
  rw [named_known h, ha]
  simp [Outlet.isFailed, and_assoc]

/-- The ranks of a POWER_OFF of a record that awaits no adoption (R56). -/
theorem powerOff_taken {s : State} {g : Tag} {i : Nat} {l : Load} (h : s.names g i l) (ha : l.awaiting = false) :
    s.powerOff g =
      if l.pinned = true then (s, .plain .pinned)
      else if l.state = .unpowered ∨ l.state = .stopping then s.ok
      else if l.state = .admitting ∨ l.state = .retiring then (s, .plain .wrongState)
      else if l.state = .cycling then ((s.abandonPowerOff i).stop i).ok
      else (s.stop i).ok := by
  unfold State.powerOff State.power
  rw [named_known h, ha]
  simp

/-- The record after a POWER_OFF of a cycle: ABANDONED by POWER_OFF, and STOPPING or UNPOWERED (R56, R107). -/
theorem abandoned_then_stopped {s : State} {i : Nat} {l : Load} (hl : s.load i = some l) :
    ∃ m o, ((s.abandonPowerOff i).stop i).load i = some m ∧ m.lastOutcome = some o ∧
      o.outcome = .abandoned .powerOff ∧ (m.state = .stopping ∨ m.state = .unpowered) := by
  obtain ⟨cause, written⟩ := outcome_abandonPowerOff (Option.isSome_of_eq_some hl)
  obtain ⟨m', hm', -⟩ := Option.map_eq_some_iff.mp written
  have stopped := state_stop (Option.isSome_of_eq_some hm')
  rw [← outcome_stop] at written
  obtain ⟨m, hm, outcome⟩ := Option.map_eq_some_iff.mp written
  refine ⟨m, _, hm, outcome, rfl, ?_⟩
  simpa [column, hm] using stopped

/-- Settles O28: the ranks of R51 and R56 branch by branch, the cycle's record by `abandoned_then_stopped`. -/
theorem powerOnAndOffJudged : Obligations.PowerOnAndOffJudged := by
  intro t i g l s hs hf hn ha
  have on := powerOn_taken (s := (s.advance t).quiet) hn ha
  have off := powerOff_taken (s := (s.advance t).quiet) hn ha
  dsimp only
  constructor
  · split
    next h1 => exact request_answered hf (by rw [on, if_pos h1]; rfl) hs
    next h1 =>
    split
    next h2 => exact request_answered hf (by rw [on, if_neg h1, if_pos h2]; rfl) hs
    next h2 =>
    split
    next h3 => exact request_answered hf (by rw [on, if_neg h1, if_neg h2]; exact if_pos h3) hs
    next h3 => exact request_finished hf (by rw [on, if_neg h1, if_neg h2]; exact if_neg h3)
  · split
    next h1 => exact request_answered hf (by rw [off, if_pos h1]; rfl) hs
    next h1 =>
    split
    next h2 => exact request_answered hf (by rw [off, if_neg h1, if_pos h2]; rfl) hs
    next h2 =>
    split
    next h3 => exact request_answered hf (by rw [off, if_neg h1, if_neg h2, if_pos h3]; rfl) hs
    next h3 =>
    split
    next h4 =>
      refine ⟨?_, abandoned_then_stopped (s := (s.advance t).quiet) hn.2.2⟩
      exact request_finished hf (by rw [off, if_neg h1, if_neg h2, if_neg h3, if_pos h4]; rfl)
    next h4 => exact request_finished hf (by rw [off, if_neg h1, if_neg h2, if_neg h3, if_neg h4]; rfl)

end Sys2Proof.Machine.Laws
end

section
/-! PROOFS. Insertions into the Energization Queue (O43): the place that an entry takes among the others (R116), and
the rows of R117 as one equation. -/

namespace Sys2Proof.Machine.Laws

/-! ### The place of an entry (R116) -/

/-- A placed entry parts the queue: those before it go first, and the one right behind it, if any, does not. -/
theorem placeEntry_parts (e : Entry) (q : List Entry) :
    ∃ before after, q = before ++ after ∧ placeEntry e q = before ++ e :: after ∧
      (∀ x ∈ before, x.notAfter e) ∧ ∀ x ∈ after.head?, ¬ x.notAfter e := by
  induction q with
  | nil => exact ⟨[], [], rfl, rfl, by simp, by simp⟩
  | cons x xs ih =>
    unfold placeEntry
    split
    · next passed =>
      have first : x.notAfter e := passed.imp_right fun ⟨same, earlier⟩ => ⟨same.symm, earlier⟩
      obtain ⟨before, after, parts, placed, ahead, behind⟩ := ih
      refine ⟨x :: before, after, by rw [parts]; rfl, by rw [placed]; rfl, ?_, behind⟩
      exact List.forall_mem_cons.mpr ⟨first, ahead⟩
    · next stopped =>
      refine ⟨[], x :: xs, rfl, rfl, by simp, ?_⟩
      rintro _ ⟨rfl⟩ first
      exact stopped (first.imp_right fun ⟨same, earlier⟩ => ⟨same.symm, earlier⟩)

/-- An entry that stops before one that came no later is of higher class, and so goes before all behind that one. -/
theorem notAfter_of_stopped {e x y : Entry} (came : x.arrival ≤ e.arrival) (stopped : ¬ x.notAfter e)
    (ordered : y = x ∨ x.notAfter y) : e.notAfter y := by
  unfold Entry.notAfter at *
  have higher : x.prio < e.prio := by omega
  have lower : y.prio ≤ x.prio := by
    rcases ordered with rfl | ordered
    · exact Nat.le_refl _
    · omega
  exact .inl (Nat.lt_of_le_of_lt lower higher)

/-- A queue in order stays so when an entry takes its place that came no earlier than any other (R116). -/
theorem placeEntry_ordered {e : Entry} {q : List Entry} (hq : q.Pairwise Entry.notAfter)
    (hnow : ∀ x ∈ q, x.arrival ≤ e.arrival) : (placeEntry e q).Pairwise Entry.notAfter := by
  obtain ⟨before, after, rfl, placed, ahead, behind⟩ := placeEntry_parts e q
  obtain ⟨orderedBefore, orderedAfter, across⟩ := List.pairwise_append.mp hq
  have follows : ∀ y ∈ after, e.notAfter y := by
    cases after with
    | nil => simp
    | cons x xs =>
      intro y hy
      refine notAfter_of_stopped (hnow x (by simp)) (behind x rfl) ?_
      exact (List.mem_cons.mp hy).imp_right (List.rel_of_pairwise_cons orderedAfter)
  rw [placed, List.pairwise_append, List.pairwise_cons]
  refine ⟨orderedBefore, ⟨follows, orderedAfter⟩, fun x hx => ?_⟩
  exact List.forall_mem_cons.mpr ⟨ahead x hx, across x hx⟩

/-! ### An insertion (R117) -/

/-- A gate that becomes due is noted in the step's own work and nowhere else. -/
theorem gateDue_work (s : State) (b : Nat) : ∃ w, s.gateDue b = { s with work := w } := by
  unfold State.gateDue
  split
  · exact ⟨_, rfl⟩
  · exact ⟨_, rfl⟩

/-- The rows of R117 in order. -/
theorem insert_rows (s : State) (n : Nat) (owner : Owner) (cause : QueueCause) (prio : Nat) :
    s.insert n owner cause prio =
      if s.hasEntry n = true then s
      else if s.inUse n = false ∨ (s.outlet n).adopted = false ∨ (s.outlet n).owner ≠ owner ∨
        (s.outlet n).releasing = true then s
      else if (s.outlet n).service = .failed then s
      else if (s.outlet n).commanded = .closed then s
      else if s.phaseLost (s.phaseOf n) = true then s.setOutlet n { s.outlet n with lineLost := true }
      else
        { s with queue := placeEntry { outlet := n, owner := owner, prio := prio, cause := cause, arrival := s.now }
                            s.queue }.gateDue (branchOf n) := by
  simp only [State.insert, Bool.or_eq_true, Bool.not_eq_true', bne_iff_ne, or_assoc]

/-- Settles O43: the rows of R117 one by one, the entry's place in the last by `placeEntry_parts`. -/
theorem insertionByRows : Obligations.InsertionByRows := by
  intro s n owner cause prio
  have rows := insert_rows s n owner cause prio
  dsimp only
  split
  next h1 => rw [rows, if_pos h1]
  next h1 =>
  split
  next h2 => rw [rows, if_neg h1, if_pos h2]
  next h2 =>
  split
  next h3 => rw [rows, if_neg h1, if_neg h2, if_pos h3]
  next h3 =>
  split
  next h4 => rw [rows, if_neg h1, if_neg h2, if_neg h3, if_pos h4]
  next h4 =>
  split
  next h5 => rw [rows, if_neg h1, if_neg h2, if_neg h3, if_neg h4, if_pos h5]
  next h5 =>
  rw [if_neg h1, if_neg h2, if_neg h3, if_neg h4, if_neg h5] at rows
  obtain ⟨w, due⟩ := gateDue_work { s with queue := placeEntry ⟨n, owner, prio, cause, s.now⟩ s.queue } (branchOf n)
  rw [rows, due]
  obtain ⟨before, after, parts, placed, -, -⟩ := placeEntry_parts ⟨n, owner, prio, cause, s.now⟩ s.queue
  refine ⟨rfl, ?_, rfl, rfl, fun ordered past => placeEntry_ordered ordered past, before, after, parts, placed⟩
  exact placed ▸ List.mem_append_cons_self

end Sys2Proof.Machine.Laws
end

section
/-! PROOFS. The ends of orders (O59): the seven answers as one reception, which R181's drop and R187's match judge, and
an order's deadline (R186). -/

namespace Sys2Proof.Machine.Laws

/-- A step that leaves a settled state alone answers that state. -/
theorem done_settled {s : State} (h : s.Settled) : s.done = .next s := by
  rw [State.done, finish_settled h]

/-! ### Outstanding orders -/

theorem linkUp_iff {s : State} : s.linkUp = true ↔ s.link.presence = .up := decide_eq_true_iff

theorem orderOf_some {s : State} {i : Nat} {o : OrderRec} :
    s.orderOf i = some o ↔ ∃ l, s.load i = some l ∧ l.order = some o := by
  unfold State.orderOf
  cases s.load i <;> simp

/-! ### The reception of an answer (R181, R187) -/

/-- Each of the seven answers is a frame taken as an end of an order, whose fields are in range where its tag and
number are. -/
theorem answerFrame_received {t : Nat} {tag : Tag} {number : Nat} {e : OrderEnd} {c : Instr}
    (h : AnswerFrame t tag number e c) :
    ∃ f : LinkFrame, (∀ s, exec c s = State.done ((s.advance t).taken f fun s => s.takeAnswer tag number e)) ∧
      f.fieldsOk = (tag != 0 && within 1 255 number) := by
  cases h with
  | bound => exact ⟨.bound tag number, fun s => exec_bound s .., rfl⟩
  | refused r => exact ⟨.refused tag number r, fun s => exec_refused s .., rfl⟩
  | unbound => exact ⟨.unbound tag number, fun s => exec_unbound s .., rfl⟩
  | dropped => exact ⟨.dropped tag number, fun s => exec_dropped s .., rfl⟩
  | dropRefused => exact ⟨.dropRefused tag number, fun s => exec_dropRefused s .., rfl⟩
  | raised => exact ⟨.raised tag number, fun s => exec_raised s .., rfl⟩
  | raiseFailed n hn =>
    exact ⟨.raiseFailed tag number n, fun s => exec_raiseFailed s .., by simp [LinkFrame.fieldsOk, hn]⟩

/-- A frame with its fields in range is handed on while the link is UP (R181). -/
theorem taken_up {s : State} {f : LinkFrame} {act : State → State} (hf : f.fieldsOk = true)
    (hu : s.link.presence = .up) : s.taken f act = act s := by
  rw [State.taken, hf, linkUp_iff.mpr hu]
  rfl

/-- A frame changes nothing where the link is not UP or its receiver leaves the state alone (R181). -/
theorem taken_idle {s : State} {f : LinkFrame} {act : State → State}
    (h : s.link.presence ≠ .up ∨ act s = s) : s.taken f act = s := by
  unfold State.taken
  split
  next taken =>
    have up : s.link.presence = .up := linkUp_iff.mp (Bool.and_eq_true_iff.mp taken).2
    exact h.resolve_left fun down => down up
  next => rfl

/-- An answer ends the order of the record with its home tag whose number and kind it matches (R187). -/
theorem takeAnswer_matched {s : State} {tag : Tag} {number i : Nat} {e : OrderEnd} {o : OrderRec}
    (hi : s.slotOfTag tag = some i) (ho : s.orderOf i = some o) (hn : o.number = number)
    (hk : e.ends o.kind = true) : s.takeAnswer tag number e = s.endOrder i o e := by
  unfold State.takeAnswer
  rw [hi]
  dsimp only
  rw [ho]
  simp [hn, hk]

/-- An answer that matches no order by home tag, number and kind is discarded (R187). -/
theorem takeAnswer_discarded {s : State} {tag : Tag} {number : Nat} {e : OrderEnd}
    (h : ∀ i o, s.slotOfTag tag = some i → s.orderOf i = some o → ¬ (o.number = number ∧ e.ends o.kind = true)) :
    s.takeAnswer tag number e = s := by
  unfold State.takeAnswer
  split
  next i hi =>
    split
    next o ho => exact if_neg (by simpa using h i o hi ho)
    next => rfl
  next => rfl

/-! ### The deadline of an order (R186) -/

/-- The deadline of an outstanding order ends it as expired once it has come. -/
theorem expireOrder_outstanding {s : State} {i : Nat} {o : OrderRec} (ho : s.orderOf i = some o) :
    s.expireOrder i = if o.deadline ≤ s.now then s.endOrder i o .expired else s := by
  unfold State.expireOrder
  rw [ho]

/-! ### Answers and deadlines -/

/-- Settles O59: the reception of an answer by `answerFrame_received`, judged by R181 (`taken_up`, `taken_idle`) and
R187 (`takeAnswer_matched`, `takeAnswer_discarded`); the deadline by `expireOrder_outstanding`. -/
theorem answersMatchOrders : Obligations.AnswersMatchOrders := by
  intro t tag number e c s h hs
  obtain ⟨f, received, inRange⟩ := answerFrame_received h
  have settled : (s.advance t).Settled := settled_advance t hs
  refine ⟨fun unmatched => ?_, fun i l o h0 h1 h255 up hi hl ho hn hk => ?_, fun i l o hl ho => ?_⟩
  · have unchanged : (s.advance t).link.presence ≠ .up ∨ (s.advance t).takeAnswer tag number e = s.advance t := by
      refine unmatched.imp_right fun none => takeAnswer_discarded fun i o hi ho => ?_
      obtain ⟨l, hl, ho⟩ := orderOf_some.mp ho
      exact none i l o hi hl ho
    rw [received, taken_idle unchanged, done_settled settled]
  · have outstanding : (s.advance t).orderOf i = some o := orderOf_some.mpr ⟨l, hl, ho⟩
    have fields : f.fieldsOk = true := by
      rw [inRange, bne_iff_ne.mpr h0]
      simp [within, h1, h255]
    rw [received, taken_up (s := s.advance t) fields up,
      takeAnswer_matched (s := s.advance t) hi outstanding hn hk, State.done]
  · have outstanding : (s.advance t).orderOf i = some o := orderOf_some.mpr ⟨l, hl, ho⟩
    rw [exec_orderDeadlineExpiry, expireOrder_outstanding outstanding]
    split
    · rfl
    · exact done_settled settled

end Sys2Proof.Machine.Laws
end

section
/-! PROOFS. PORT_RESET, its release and the end of a held request (O12), and the write frames that an executing port
drops (O15): every write frame is one transaction judged by R200 and R203, whatever its handling would have been. -/

namespace Sys2Proof.Machine.Laws

/-! ### The port apart from the rest -/

/-- What a step still has to judge does not lie in the port. -/
theorem settled_withPort {s : State} (p : Port) (h : s.Settled) : ({ s with port := p } : State).Settled := h

/-- The end of a held request that the port does not execute leaves the port alone (R202, R204). -/
theorem endHeld_otherwise {s : State} {k : ReqKind} {i : Nat} {st : Status} {b : AnswerBody}
    (h : s.port.state ≠ .executing k i) : s.endHeld k i st b = s := if_neg h

/-- Settles O12: what the three clauses change lies in the port alone (`settled_withPort`), where the end of a request
no longer executing finds nothing to do (`endHeld_otherwise`). -/
theorem portResetEmptiesPort : Obligations.PortResetEmptiesPort := by
  intro t s hs
  have settled : (s.advance t).Settled := settled_advance t hs
  refine ⟨?_, ?_, fun k i st b other => endHeld_otherwise other⟩
  · rw [exec_portReset]
    exact done_settled (settled_withPort _ settled)
  · rw [exec_portResetRelease]
    exact done_settled (settled_withPort _ settled)

/-! ### Write frames -/

/-- A write transaction on an executing port is dropped: MISO quiet, PORT raised (R203). -/
theorem written_executing {s : State} (f : State → State) (high : s.port.prstLow = false)
    (busy : s.executing = true) : s.written f = s.quiet.raiseFlag .port := by
  unfold State.written
  rw [high, busy]
  rfl

/-- After the raising of a flag only the attention line is left to judge at the end of the step (R206, R207). -/
theorem done_quiet_raiseFlag {s : State} (f : Flag) (hs : s.Settled) :
    (s.quiet.raiseFlag f).done = .next (s.quiet.raiseFlag f).judgeLine := by
  obtain ⟨noWork, -, noReturn⟩ := hs
  rw [State.done, finish_quiet (s := s.quiet.raiseFlag f) noWork noReturn]

/-- Every command that is a write frame is one write transaction at its moment, with a handling of its own where the
port takes it (R200, R201). -/
theorem writeFrame_written {c : Instr} (h : writeFrame c = true) :
    ∃ handle : State → State, ∀ s, exec c s = State.done ((s.advance c.time).written handle) := by
  cases c with
  | badFrame t bytes =>
    have first : bytes.head? = some 0xC3 := of_decide_eq_true h
    exact ⟨_, fun s => (exec_badFrame s t bytes).trans (congrArg State.done (if_pos first))⟩
  | overrun t => exact ⟨id, fun s => exec_overrun s t⟩
  | unknownRequestKind t kind => exact ⟨_, fun s => exec_unknownRequestKind s t kind⟩
  | admitLoad | amend | retire | lookup | list | pin | aliasAdd | aliasRemove | powerOn | powerOff | cycle | cancel
  | release | beat | outlets | revive | faults | meter | reclaim | configure | settings | save | attention
  | notices => exact ⟨_, fun _ => rfl⟩
  | _ => cases h

/-- A write frame that ends while the port is EXECUTING is dropped, and PORT is raised (R203). -/
theorem writeFrame_dropped {c : Instr} {s : State} (h : writeFrame c = true) (hs : s.Settled)
    (high : s.port.prstLow = false) (busy : s.executing = true) :
    exec c s = .next ((s.advance c.time).quiet.raiseFlag .port).judgeLine := by
  obtain ⟨handle, run⟩ := writeFrame_written h
  have dropped : (s.advance c.time).written handle = (s.advance c.time).quiet.raiseFlag .port :=
    written_executing handle high busy
  rw [run, dropped, done_quiet_raiseFlag .port (settled_advance c.time hs)]

/-- Settles O15: OVERRUN is a write frame among the others, all of them dropped by `writeFrame_dropped`. -/
theorem overrunDropsFrame : Obligations.OverrunDropsFrame :=
  ⟨fun t _ => writeFrame_dropped (c := .overrun t) rfl, fun _ _ => writeFrame_dropped⟩

end Sys2Proof.Machine.Laws
end
